-- ==== Sys2Proof/Word.lean ====
section
/-! DEFINITION. The two word types of the core and the sixteen values of half an opcode byte. -/

namespace Sys2Proof

/-- A register half, a memory byte, an opcode or an immediate byte: 8 bits (R7, R10). -/
abbrev Byte := BitVec 8

/-- A 16-bit register, an address or a 16-bit immediate (R7, R10). -/
abbrev Word := BitVec 16

/-- Half an opcode byte: the row and the column of the opcode map of 30_encoding.md R89. -/
inductive Nibble
  | x0 | x1 | x2 | x3 | x4 | x5 | x6 | x7 | x8 | x9 | xA | xB | xC | xD | xE | xF
  deriving DecidableEq, Repr

end Sys2Proof
end

