-- ==== Sys2Proof/Syntax.lean ====
section
/-! DEFINITION. The instruction set as syntax: the operand names of 00_scope.md R17, one constructor of `Instr` for each
of the 256 rows of spec/opcode_table.json, and for each family of the opcode map the function from its operands to the
constructors. -/

namespace Sys2Proof

/-- Operand `r`: an 8-bit register, in the order of its field values (R17, R82). -/
inductive Reg8
  | b | c | d | e | h | l | a
  deriving DecidableEq, Repr

/-- Operand `rr` (R17, R83). -/
inductive Pair
  | bc | de | hl | sp
  deriving DecidableEq, Repr

/-- Operand `qq`, the stack forms (R17, R84). -/
inductive StackPair
  | bc | de | hl | af
  deriving DecidableEq, Repr

/-- Operand `cc`, a branch condition (R17, R85). -/
inductive Cond
  | nz | z | nc | c
  deriving DecidableEq, Repr

/-- Field `alu`: the eight 8-bit operations on A (R86). -/
inductive AluOp
  | add | adc | sub | sbc | and | xor | or | cp
  deriving DecidableEq, Repr

/-- Where an 8-bit source operand comes from (R130): a register (A is the self form), the byte at HL, or an immediate. -/
inductive Src8
  | reg (r : Reg8) | atHL | imm (v : Byte)
  deriving DecidableEq, Repr

/-- The memory operand of an accumulator move (R165 to R178): (BC), (DE), (HL+), (HL-), (a8), (C), (a16). -/
inductive AccMem
  | atBC | atDE | atHLInc | atHLDec | atHigh (n : Byte) | atHighC | atAbs (a : Word)
  deriving DecidableEq, Repr

/-- Operand `t` of RST: the eight fixed vectors (R87, R211). -/
inductive RstVec
  | v00 | v08 | v10 | v18 | v20 | v28 | v30 | v38
  deriving DecidableEq, Repr

/-- The four accumulator rotates (R220 to R223). -/
inductive RotOp
  | rlca | rrca | rla | rra
  deriving DecidableEq, Repr

/-- One constructor per row of spec/opcode_table.json: first the rows with immediates, then the one-byte rows, each in opcode
order (Lean's runtime wants the constructors that carry data first). Immediates are kept as assembled: `v` a d8 or d16,
`e` an e8, `n` an a8, `a` an a16 (R88). -/
inductive Instr
  /-- 0x01 `LD BC,d16`, R179. -/
  | ldBCD16 (v : Word)
  /-- 0x06 `LD B,d8`, R163. -/
  | ldBD8 (v : Byte)
  /-- 0x08 `LD (a16),SP`, R180. -/
  | ldAtA16SP (a : Word)
  /-- 0x0E `LD C,d8`, R163. -/
  | ldCD8 (v : Byte)
  /-- 0x11 `LD DE,d16`, R179. -/
  | ldDED16 (v : Word)
  /-- 0x16 `LD D,d8`, R163. -/
  | ldDD8 (v : Byte)
  /-- 0x18 `JR e8`, R201. -/
  | jrE8 (e : Byte)
  /-- 0x1E `LD E,d8`, R163. -/
  | ldED8 (v : Byte)
  /-- 0x20 `JR NZ,e8`, R202. -/
  | jrNZE8 (e : Byte)
  /-- 0x21 `LD HL,d16`, R179. -/
  | ldHLD16 (v : Word)
  /-- 0x26 `LD H,d8`, R163. -/
  | ldHD8 (v : Byte)
  /-- 0x28 `JR Z,e8`, R202. -/
  | jrZE8 (e : Byte)
  /-- 0x2E `LD L,d8`, R163. -/
  | ldLD8 (v : Byte)
  /-- 0x30 `JR NC,e8`, R202. -/
  | jrNCE8 (e : Byte)
  /-- 0x31 `LD SP,d16`, R179. -/
  | ldSPD16 (v : Word)
  /-- 0x36 `LD (HL),d8`, R164. -/
  | ldAtHLD8 (v : Byte)
  /-- 0x38 `JR C,e8`, R202. -/
  | jrCE8 (e : Byte)
  /-- 0x3E `LD A,d8`, R163. -/
  | ldAD8 (v : Byte)
  /-- 0xC2 `JP NZ,a16`, R204. -/
  | jpNZA16 (a : Word)
  /-- 0xC3 `JP a16`, R203. -/
  | jpA16 (a : Word)
  /-- 0xC4 `CALL NZ,a16`, R207. -/
  | callNZA16 (a : Word)
  /-- 0xC6 `ADD A,d8`, R131. -/
  | addAD8 (v : Byte)
  /-- 0xCA `JP Z,a16`, R204. -/
  | jpZA16 (a : Word)
  /-- 0xCC `CALL Z,a16`, R207. -/
  | callZA16 (a : Word)
  /-- 0xCD `CALL a16`, R206. -/
  | callA16 (a : Word)
  /-- 0xCE `ADC A,d8`, R132. -/
  | adcAD8 (v : Byte)
  /-- 0xD2 `JP NC,a16`, R204. -/
  | jpNCA16 (a : Word)
  /-- 0xD4 `CALL NC,a16`, R207. -/
  | callNCA16 (a : Word)
  /-- 0xD6 `SUB d8`, R133. -/
  | subD8 (v : Byte)
  /-- 0xDA `JP C,a16`, R204. -/
  | jpCA16 (a : Word)
  /-- 0xDC `CALL C,a16`, R207. -/
  | callCA16 (a : Word)
  /-- 0xDE `SBC A,d8`, R134. -/
  | sbcAD8 (v : Byte)
  /-- 0xE0 `LDH (a8),A`, R173. -/
  | ldhAtA8A (n : Byte)
  /-- 0xE6 `AND d8`, R135. -/
  | andD8 (v : Byte)
  /-- 0xE8 `ADD SP,e8`, R144. -/
  | addSPE8 (e : Byte)
  /-- 0xEA `LD (a16),A`, R177. -/
  | ldAtA16A (a : Word)
  /-- 0xEE `XOR d8`, R136. -/
  | xorD8 (v : Byte)
  /-- 0xF0 `LDH A,(a8)`, R174. -/
  | ldhAAtA8 (n : Byte)
  /-- 0xF6 `OR d8`, R137. -/
  | orD8 (v : Byte)
  /-- 0xF8 `LD HL,SP+e8`, R182. -/
  | ldHLSPE8 (e : Byte)
  /-- 0xFA `LD A,(a16)`, R178. -/
  | ldAAtA16 (a : Word)
  /-- 0xFE `CP d8`, R138. -/
  | cpD8 (v : Byte)
  /-- 0x00 `NOP`, R105. -/
  | nop
  /-- 0x02 `LD (BC),A`, R165. -/
  | ldAtBCA
  /-- 0x03 `INC BC`, R124. -/
  | incBC
  /-- 0x04 `INC B`, R120. -/
  | incB
  /-- 0x05 `DEC B`, R121. -/
  | decB
  /-- 0x07 `RLCA`, R220. -/
  | rlca
  /-- 0x09 `ADD HL,BC`, R143. -/
  | addHLBC
  /-- 0x0A `LD A,(BC)`, R167. -/
  | ldAAtBC
  /-- 0x0B `DEC BC`, R125. -/
  | decBC
  /-- 0x0C `INC C`, R120. -/
  | incC
  /-- 0x0D `DEC C`, R121. -/
  | decC
  /-- 0x0F `RRCA`, R221. -/
  | rrca
  /-- 0x10 `STOP`, R108. -/
  | stop
  /-- 0x12 `LD (DE),A`, R166. -/
  | ldAtDEA
  /-- 0x13 `INC DE`, R124. -/
  | incDE
  /-- 0x14 `INC D`, R120. -/
  | incD
  /-- 0x15 `DEC D`, R121. -/
  | decD
  /-- 0x17 `RLA`, R222. -/
  | rla
  /-- 0x19 `ADD HL,DE`, R143. -/
  | addHLDE
  /-- 0x1A `LD A,(DE)`, R168. -/
  | ldAAtDE
  /-- 0x1B `DEC DE`, R125. -/
  | decDE
  /-- 0x1C `INC E`, R120. -/
  | incE
  /-- 0x1D `DEC E`, R121. -/
  | decE
  /-- 0x1F `RRA`, R223. -/
  | rra
  /-- 0x22 `LD (HL+),A`, R169. -/
  | ldAtHLIncA
  /-- 0x23 `INC HL`, R124. -/
  | incHL
  /-- 0x24 `INC H`, R120. -/
  | incH
  /-- 0x25 `DEC H`, R121. -/
  | decH
  /-- 0x27 `DAA`, R145. -/
  | daa
  /-- 0x29 `ADD HL,HL`, R143. -/
  | addHLHL
  /-- 0x2A `LD A,(HL+)`, R171. -/
  | ldAAtHLInc
  /-- 0x2B `DEC HL`, R125. -/
  | decHL
  /-- 0x2C `INC L`, R120. -/
  | incL
  /-- 0x2D `DEC L`, R121. -/
  | decL
  /-- 0x2F `CPL`, R140. -/
  | cpl
  /-- 0x32 `LD (HL-),A`, R170. -/
  | ldAtHLDecA
  /-- 0x33 `INC SP`, R124. -/
  | incSP
  /-- 0x34 `INC (HL)`, R122. -/
  | incAtHL
  /-- 0x35 `DEC (HL)`, R123. -/
  | decAtHL
  /-- 0x37 `SCF`, R141. -/
  | scf
  /-- 0x39 `ADD HL,SP`, R143. -/
  | addHLSP
  /-- 0x3A `LD A,(HL-)`, R172. -/
  | ldAAtHLDec
  /-- 0x3B `DEC SP`, R125. -/
  | decSP
  /-- 0x3C `INC A`, R120. -/
  | incA
  /-- 0x3D `DEC A`, R121. -/
  | decA
  /-- 0x3F `CCF`, R142. -/
  | ccf
  /-- 0x40 `LD B,B`, R160. -/
  | ldBB
  /-- 0x41 `LD B,C`, R160. -/
  | ldBC
  /-- 0x42 `LD B,D`, R160. -/
  | ldBD
  /-- 0x43 `LD B,E`, R160. -/
  | ldBE
  /-- 0x44 `LD B,H`, R160. -/
  | ldBH
  /-- 0x45 `LD B,L`, R160. -/
  | ldBL
  /-- 0x46 `LD B,(HL)`, R161. -/
  | ldBAtHL
  /-- 0x47 `LD B,A`, R160. -/
  | ldBA
  /-- 0x48 `LD C,B`, R160. -/
  | ldCB
  /-- 0x49 `LD C,C`, R160. -/
  | ldCC
  /-- 0x4A `LD C,D`, R160. -/
  | ldCD
  /-- 0x4B `LD C,E`, R160. -/
  | ldCE
  /-- 0x4C `LD C,H`, R160. -/
  | ldCH
  /-- 0x4D `LD C,L`, R160. -/
  | ldCL
  /-- 0x4E `LD C,(HL)`, R161. -/
  | ldCAtHL
  /-- 0x4F `LD C,A`, R160. -/
  | ldCA
  /-- 0x50 `LD D,B`, R160. -/
  | ldDB
  /-- 0x51 `LD D,C`, R160. -/
  | ldDC
  /-- 0x52 `LD D,D`, R160. -/
  | ldDD
  /-- 0x53 `LD D,E`, R160. -/
  | ldDE
  /-- 0x54 `LD D,H`, R160. -/
  | ldDH
  /-- 0x55 `LD D,L`, R160. -/
  | ldDL
  /-- 0x56 `LD D,(HL)`, R161. -/
  | ldDAtHL
  /-- 0x57 `LD D,A`, R160. -/
  | ldDA
  /-- 0x58 `LD E,B`, R160. -/
  | ldEB
  /-- 0x59 `LD E,C`, R160. -/
  | ldEC
  /-- 0x5A `LD E,D`, R160. -/
  | ldED
  /-- 0x5B `LD E,E`, R160. -/
  | ldEE
  /-- 0x5C `LD E,H`, R160. -/
  | ldEH
  /-- 0x5D `LD E,L`, R160. -/
  | ldEL
  /-- 0x5E `LD E,(HL)`, R161. -/
  | ldEAtHL
  /-- 0x5F `LD E,A`, R160. -/
  | ldEA
  /-- 0x60 `LD H,B`, R160. -/
  | ldHB
  /-- 0x61 `LD H,C`, R160. -/
  | ldHC
  /-- 0x62 `LD H,D`, R160. -/
  | ldHD
  /-- 0x63 `LD H,E`, R160. -/
  | ldHE
  /-- 0x64 `LD H,H`, R160. -/
  | ldHH
  /-- 0x65 `LD H,L`, R160. -/
  | ldHL
  /-- 0x66 `LD H,(HL)`, R161. -/
  | ldHAtHL
  /-- 0x67 `LD H,A`, R160. -/
  | ldHA
  /-- 0x68 `LD L,B`, R160. -/
  | ldLB
  /-- 0x69 `LD L,C`, R160. -/
  | ldLC
  /-- 0x6A `LD L,D`, R160. -/
  | ldLD
  /-- 0x6B `LD L,E`, R160. -/
  | ldLE
  /-- 0x6C `LD L,H`, R160. -/
  | ldLH
  /-- 0x6D `LD L,L`, R160. -/
  | ldLL
  /-- 0x6E `LD L,(HL)`, R161. -/
  | ldLAtHL
  /-- 0x6F `LD L,A`, R160. -/
  | ldLA
  /-- 0x70 `LD (HL),B`, R162. -/
  | ldAtHLB
  /-- 0x71 `LD (HL),C`, R162. -/
  | ldAtHLC
  /-- 0x72 `LD (HL),D`, R162. -/
  | ldAtHLD
  /-- 0x73 `LD (HL),E`, R162. -/
  | ldAtHLE
  /-- 0x74 `LD (HL),H`, R162. -/
  | ldAtHLH
  /-- 0x75 `LD (HL),L`, R162. -/
  | ldAtHLL
  /-- 0x76 `HALT`, R109. -/
  | halt
  /-- 0x77 `LD (HL),A`, R162. -/
  | ldAtHLA
  /-- 0x78 `LD A,B`, R160. -/
  | ldAB
  /-- 0x79 `LD A,C`, R160. -/
  | ldAC
  /-- 0x7A `LD A,D`, R160. -/
  | ldAD
  /-- 0x7B `LD A,E`, R160. -/
  | ldAE
  /-- 0x7C `LD A,H`, R160. -/
  | ldAH
  /-- 0x7D `LD A,L`, R160. -/
  | ldAL
  /-- 0x7E `LD A,(HL)`, R161. -/
  | ldAAtHL
  /-- 0x7F `LD A,A`, R160. -/
  | ldAA
  /-- 0x80 `ADD A,B`, R131. -/
  | addAB
  /-- 0x81 `ADD A,C`, R131. -/
  | addAC
  /-- 0x82 `ADD A,D`, R131. -/
  | addAD
  /-- 0x83 `ADD A,E`, R131. -/
  | addAE
  /-- 0x84 `ADD A,H`, R131. -/
  | addAH
  /-- 0x85 `ADD A,L`, R131. -/
  | addAL
  /-- 0x86 `ADD A,(HL)`, R131. -/
  | addAAtHL
  /-- 0x87 `ADD A,A`, R131. -/
  | addAA
  /-- 0x88 `ADC A,B`, R132. -/
  | adcAB
  /-- 0x89 `ADC A,C`, R132. -/
  | adcAC
  /-- 0x8A `ADC A,D`, R132. -/
  | adcAD
  /-- 0x8B `ADC A,E`, R132. -/
  | adcAE
  /-- 0x8C `ADC A,H`, R132. -/
  | adcAH
  /-- 0x8D `ADC A,L`, R132. -/
  | adcAL
  /-- 0x8E `ADC A,(HL)`, R132. -/
  | adcAAtHL
  /-- 0x8F `ADC A,A`, R132. -/
  | adcAA
  /-- 0x90 `SUB B`, R133. -/
  | subB
  /-- 0x91 `SUB C`, R133. -/
  | subC
  /-- 0x92 `SUB D`, R133. -/
  | subD
  /-- 0x93 `SUB E`, R133. -/
  | subE
  /-- 0x94 `SUB H`, R133. -/
  | subH
  /-- 0x95 `SUB L`, R133. -/
  | subL
  /-- 0x96 `SUB (HL)`, R133. -/
  | subAtHL
  /-- 0x97 `SUB A`, R133. -/
  | subA
  /-- 0x98 `SBC A,B`, R134. -/
  | sbcAB
  /-- 0x99 `SBC A,C`, R134. -/
  | sbcAC
  /-- 0x9A `SBC A,D`, R134. -/
  | sbcAD
  /-- 0x9B `SBC A,E`, R134. -/
  | sbcAE
  /-- 0x9C `SBC A,H`, R134. -/
  | sbcAH
  /-- 0x9D `SBC A,L`, R134. -/
  | sbcAL
  /-- 0x9E `SBC A,(HL)`, R134. -/
  | sbcAAtHL
  /-- 0x9F `SBC A,A`, R134. -/
  | sbcAA
  /-- 0xA0 `AND B`, R135. -/
  | andB
  /-- 0xA1 `AND C`, R135. -/
  | andC
  /-- 0xA2 `AND D`, R135. -/
  | andD
  /-- 0xA3 `AND E`, R135. -/
  | andE
  /-- 0xA4 `AND H`, R135. -/
  | andH
  /-- 0xA5 `AND L`, R135. -/
  | andL
  /-- 0xA6 `AND (HL)`, R135. -/
  | andAtHL
  /-- 0xA7 `AND A`, R135. -/
  | andA
  /-- 0xA8 `XOR B`, R136. -/
  | xorB
  /-- 0xA9 `XOR C`, R136. -/
  | xorC
  /-- 0xAA `XOR D`, R136. -/
  | xorD
  /-- 0xAB `XOR E`, R136. -/
  | xorE
  /-- 0xAC `XOR H`, R136. -/
  | xorH
  /-- 0xAD `XOR L`, R136. -/
  | xorL
  /-- 0xAE `XOR (HL)`, R136. -/
  | xorAtHL
  /-- 0xAF `XOR A`, R136. -/
  | xorA
  /-- 0xB0 `OR B`, R137. -/
  | orB
  /-- 0xB1 `OR C`, R137. -/
  | orC
  /-- 0xB2 `OR D`, R137. -/
  | orD
  /-- 0xB3 `OR E`, R137. -/
  | orE
  /-- 0xB4 `OR H`, R137. -/
  | orH
  /-- 0xB5 `OR L`, R137. -/
  | orL
  /-- 0xB6 `OR (HL)`, R137. -/
  | orAtHL
  /-- 0xB7 `OR A`, R137. -/
  | orA
  /-- 0xB8 `CP B`, R138. -/
  | cpB
  /-- 0xB9 `CP C`, R138. -/
  | cpC
  /-- 0xBA `CP D`, R138. -/
  | cpD
  /-- 0xBB `CP E`, R138. -/
  | cpE
  /-- 0xBC `CP H`, R138. -/
  | cpH
  /-- 0xBD `CP L`, R138. -/
  | cpL
  /-- 0xBE `CP (HL)`, R138. -/
  | cpAtHL
  /-- 0xBF `CP A`, R138. -/
  | cpA
  /-- 0xC0 `RET NZ`, R209. -/
  | retNZ
  /-- 0xC1 `POP BC`, R186. -/
  | popBC
  /-- 0xC5 `PUSH BC`, R185. -/
  | pushBC
  /-- 0xC7 `RST 00H`, R211. -/
  | rst00
  /-- 0xC8 `RET Z`, R209. -/
  | retZ
  /-- 0xC9 `RET`, R208. -/
  | ret
  /-- 0xCB `PREFIX CB`, R107. -/
  | prefixCB
  /-- 0xCF `RST 08H`, R211. -/
  | rst08
  /-- 0xD0 `RET NC`, R209. -/
  | retNC
  /-- 0xD1 `POP DE`, R186. -/
  | popDE
  /-- 0xD3 `(gap 0xD3)`, R106. -/
  | gapD3
  /-- 0xD5 `PUSH DE`, R185. -/
  | pushDE
  /-- 0xD7 `RST 10H`, R211. -/
  | rst10
  /-- 0xD8 `RET C`, R209. -/
  | retC
  /-- 0xD9 `RETI`, R210. -/
  | reti
  /-- 0xDB `(gap 0xDB)`, R106. -/
  | gapDB
  /-- 0xDD `(gap 0xDD)`, R106. -/
  | gapDD
  /-- 0xDF `RST 18H`, R211. -/
  | rst18
  /-- 0xE1 `POP HL`, R186. -/
  | popHL
  /-- 0xE2 `LD (C),A`, R175. -/
  | ldAtCA
  /-- 0xE3 `(gap 0xE3)`, R106. -/
  | gapE3
  /-- 0xE4 `(gap 0xE4)`, R106. -/
  | gapE4
  /-- 0xE5 `PUSH HL`, R185. -/
  | pushHL
  /-- 0xE7 `RST 20H`, R211. -/
  | rst20
  /-- 0xE9 `JP HL`, R205. -/
  | jpHL
  /-- 0xEB `(gap 0xEB)`, R106. -/
  | gapEB
  /-- 0xEC `(gap 0xEC)`, R106. -/
  | gapEC
  /-- 0xED `(gap 0xED)`, R106. -/
  | gapED
  /-- 0xEF `RST 28H`, R211. -/
  | rst28
  /-- 0xF1 `POP AF`, R186. -/
  | popAF
  /-- 0xF2 `LD A,(C)`, R176. -/
  | ldAAtC
  /-- 0xF3 `DI`, R110. -/
  | di
  /-- 0xF4 `(gap 0xF4)`, R106. -/
  | gapF4
  /-- 0xF5 `PUSH AF`, R185. -/
  | pushAF
  /-- 0xF7 `RST 30H`, R211. -/
  | rst30
  /-- 0xF9 `LD SP,HL`, R181. -/
  | ldSPHL
  /-- 0xFB `EI`, R111. -/
  | ei
  /-- 0xFC `(gap 0xFC)`, R106. -/
  | gapFC
  /-- 0xFD `(gap 0xFD)`, R106. -/
  | gapFD
  /-- 0xFF `RST 38H`, R211. -/
  | rst38
  deriving DecidableEq, Repr

/-! ### The families: from operands to constructors -/

/-- INC r (R120). -/
def Instr.incReg (r : Reg8) : Instr :=
  match r with
  | .b => .incB
  | .c => .incC
  | .d => .incD
  | .e => .incE
  | .h => .incH
  | .l => .incL
  | .a => .incA

/-- DEC r (R121). -/
def Instr.decReg (r : Reg8) : Instr :=
  match r with
  | .b => .decB
  | .c => .decC
  | .d => .decD
  | .e => .decE
  | .h => .decH
  | .l => .decL
  | .a => .decA

/-- INC rr (R124). -/
def Instr.incPair (p : Pair) : Instr :=
  match p with
  | .bc => .incBC
  | .de => .incDE
  | .hl => .incHL
  | .sp => .incSP

/-- DEC rr (R125). -/
def Instr.decPair (p : Pair) : Instr :=
  match p with
  | .bc => .decBC
  | .de => .decDE
  | .hl => .decHL
  | .sp => .decSP

/-- ADD HL,rr (R143). -/
def Instr.addHL (p : Pair) : Instr :=
  match p with
  | .bc => .addHLBC
  | .de => .addHLDE
  | .hl => .addHLHL
  | .sp => .addHLSP

/-- ADD, ADC, SUB, SBC, AND, XOR, OR, CP, each with its nine sources (R130 to R138). -/
def Instr.alu (op : AluOp) (src : Src8) : Instr :=
  match op, src with
  | .add, .reg .b => .addAB
  | .add, .reg .c => .addAC
  | .add, .reg .d => .addAD
  | .add, .reg .e => .addAE
  | .add, .reg .h => .addAH
  | .add, .reg .l => .addAL
  | .add, .atHL => .addAAtHL
  | .add, .reg .a => .addAA
  | .adc, .reg .b => .adcAB
  | .adc, .reg .c => .adcAC
  | .adc, .reg .d => .adcAD
  | .adc, .reg .e => .adcAE
  | .adc, .reg .h => .adcAH
  | .adc, .reg .l => .adcAL
  | .adc, .atHL => .adcAAtHL
  | .adc, .reg .a => .adcAA
  | .sub, .reg .b => .subB
  | .sub, .reg .c => .subC
  | .sub, .reg .d => .subD
  | .sub, .reg .e => .subE
  | .sub, .reg .h => .subH
  | .sub, .reg .l => .subL
  | .sub, .atHL => .subAtHL
  | .sub, .reg .a => .subA
  | .sbc, .reg .b => .sbcAB
  | .sbc, .reg .c => .sbcAC
  | .sbc, .reg .d => .sbcAD
  | .sbc, .reg .e => .sbcAE
  | .sbc, .reg .h => .sbcAH
  | .sbc, .reg .l => .sbcAL
  | .sbc, .atHL => .sbcAAtHL
  | .sbc, .reg .a => .sbcAA
  | .and, .reg .b => .andB
  | .and, .reg .c => .andC
  | .and, .reg .d => .andD
  | .and, .reg .e => .andE
  | .and, .reg .h => .andH
  | .and, .reg .l => .andL
  | .and, .atHL => .andAtHL
  | .and, .reg .a => .andA
  | .xor, .reg .b => .xorB
  | .xor, .reg .c => .xorC
  | .xor, .reg .d => .xorD
  | .xor, .reg .e => .xorE
  | .xor, .reg .h => .xorH
  | .xor, .reg .l => .xorL
  | .xor, .atHL => .xorAtHL
  | .xor, .reg .a => .xorA
  | .or, .reg .b => .orB
  | .or, .reg .c => .orC
  | .or, .reg .d => .orD
  | .or, .reg .e => .orE
  | .or, .reg .h => .orH
  | .or, .reg .l => .orL
  | .or, .atHL => .orAtHL
  | .or, .reg .a => .orA
  | .cp, .reg .b => .cpB
  | .cp, .reg .c => .cpC
  | .cp, .reg .d => .cpD
  | .cp, .reg .e => .cpE
  | .cp, .reg .h => .cpH
  | .cp, .reg .l => .cpL
  | .cp, .atHL => .cpAtHL
  | .cp, .reg .a => .cpA
  | .add, .imm v => .addAD8 v
  | .adc, .imm v => .adcAD8 v
  | .sub, .imm v => .subD8 v
  | .sbc, .imm v => .sbcAD8 v
  | .and, .imm v => .andD8 v
  | .xor, .imm v => .xorD8 v
  | .or, .imm v => .orD8 v
  | .cp, .imm v => .cpD8 v

/-- LD r,r', LD r,(HL) and LD r,d8 (R160, R161, R163). -/
def Instr.ldReg (r : Reg8) (src : Src8) : Instr :=
  match r, src with
  | .b, .imm v => .ldBD8 v
  | .c, .imm v => .ldCD8 v
  | .d, .imm v => .ldDD8 v
  | .e, .imm v => .ldED8 v
  | .h, .imm v => .ldHD8 v
  | .l, .imm v => .ldLD8 v
  | .a, .imm v => .ldAD8 v
  | .b, .reg .b => .ldBB
  | .b, .reg .c => .ldBC
  | .b, .reg .d => .ldBD
  | .b, .reg .e => .ldBE
  | .b, .reg .h => .ldBH
  | .b, .reg .l => .ldBL
  | .b, .atHL => .ldBAtHL
  | .b, .reg .a => .ldBA
  | .c, .reg .b => .ldCB
  | .c, .reg .c => .ldCC
  | .c, .reg .d => .ldCD
  | .c, .reg .e => .ldCE
  | .c, .reg .h => .ldCH
  | .c, .reg .l => .ldCL
  | .c, .atHL => .ldCAtHL
  | .c, .reg .a => .ldCA
  | .d, .reg .b => .ldDB
  | .d, .reg .c => .ldDC
  | .d, .reg .d => .ldDD
  | .d, .reg .e => .ldDE
  | .d, .reg .h => .ldDH
  | .d, .reg .l => .ldDL
  | .d, .atHL => .ldDAtHL
  | .d, .reg .a => .ldDA
  | .e, .reg .b => .ldEB
  | .e, .reg .c => .ldEC
  | .e, .reg .d => .ldED
  | .e, .reg .e => .ldEE
  | .e, .reg .h => .ldEH
  | .e, .reg .l => .ldEL
  | .e, .atHL => .ldEAtHL
  | .e, .reg .a => .ldEA
  | .h, .reg .b => .ldHB
  | .h, .reg .c => .ldHC
  | .h, .reg .d => .ldHD
  | .h, .reg .e => .ldHE
  | .h, .reg .h => .ldHH
  | .h, .reg .l => .ldHL
  | .h, .atHL => .ldHAtHL
  | .h, .reg .a => .ldHA
  | .l, .reg .b => .ldLB
  | .l, .reg .c => .ldLC
  | .l, .reg .d => .ldLD
  | .l, .reg .e => .ldLE
  | .l, .reg .h => .ldLH
  | .l, .reg .l => .ldLL
  | .l, .atHL => .ldLAtHL
  | .l, .reg .a => .ldLA
  | .a, .reg .b => .ldAB
  | .a, .reg .c => .ldAC
  | .a, .reg .d => .ldAD
  | .a, .reg .e => .ldAE
  | .a, .reg .h => .ldAH
  | .a, .reg .l => .ldAL
  | .a, .atHL => .ldAAtHL
  | .a, .reg .a => .ldAA

/-- LD (HL),r (R162). -/
def Instr.stHL (r : Reg8) : Instr :=
  match r with
  | .b => .ldAtHLB
  | .c => .ldAtHLC
  | .d => .ldAtHLD
  | .e => .ldAtHLE
  | .h => .ldAtHLH
  | .l => .ldAtHLL
  | .a => .ldAtHLA

/-- The accumulator stores (R165, R166, R169, R170, R173, R175, R177). -/
def Instr.storeA (m : AccMem) : Instr :=
  match m with
  | .atBC => .ldAtBCA
  | .atDE => .ldAtDEA
  | .atHLInc => .ldAtHLIncA
  | .atHLDec => .ldAtHLDecA
  | .atHigh n => .ldhAtA8A n
  | .atHighC => .ldAtCA
  | .atAbs a => .ldAtA16A a

/-- The accumulator loads (R167, R168, R171, R172, R174, R176, R178). -/
def Instr.loadA (m : AccMem) : Instr :=
  match m with
  | .atBC => .ldAAtBC
  | .atDE => .ldAAtDE
  | .atHLInc => .ldAAtHLInc
  | .atHLDec => .ldAAtHLDec
  | .atHigh n => .ldhAAtA8 n
  | .atHighC => .ldAAtC
  | .atAbs a => .ldAAtA16 a

/-- LD rr,d16 (R179). -/
def Instr.ldPair (p : Pair) (v : Word) : Instr :=
  match p with
  | .bc => .ldBCD16 v
  | .de => .ldDED16 v
  | .hl => .ldHLD16 v
  | .sp => .ldSPD16 v

/-- PUSH qq (R185). -/
def Instr.push (q : StackPair) : Instr :=
  match q with
  | .bc => .pushBC
  | .de => .pushDE
  | .hl => .pushHL
  | .af => .pushAF

/-- POP qq (R186). -/
def Instr.pop (q : StackPair) : Instr :=
  match q with
  | .bc => .popBC
  | .de => .popDE
  | .hl => .popHL
  | .af => .popAF

/-- JR cc,e8 (R202). -/
def Instr.jrIf (cc : Cond) (e : Byte) : Instr :=
  match cc with
  | .nz => .jrNZE8 e
  | .z => .jrZE8 e
  | .nc => .jrNCE8 e
  | .c => .jrCE8 e

/-- JP cc,a16 (R204). -/
def Instr.jpIf (cc : Cond) (a : Word) : Instr :=
  match cc with
  | .nz => .jpNZA16 a
  | .z => .jpZA16 a
  | .nc => .jpNCA16 a
  | .c => .jpCA16 a

/-- CALL cc,a16 (R207). -/
def Instr.callIf (cc : Cond) (a : Word) : Instr :=
  match cc with
  | .nz => .callNZA16 a
  | .z => .callZA16 a
  | .nc => .callNCA16 a
  | .c => .callCA16 a

/-- RET cc (R209). -/
def Instr.retIf (cc : Cond) : Instr :=
  match cc with
  | .nz => .retNZ
  | .z => .retZ
  | .nc => .retNC
  | .c => .retC

/-- RST t (R211). -/
def Instr.rst (t : RstVec) : Instr :=
  match t with
  | .v00 => .rst00
  | .v08 => .rst08
  | .v10 => .rst10
  | .v18 => .rst18
  | .v20 => .rst20
  | .v28 => .rst28
  | .v30 => .rst30
  | .v38 => .rst38

/-- RLCA, RRCA, RLA, RRA (R220 to R223). -/
def Instr.rot (op : RotOp) : Instr :=
  match op with
  | .rlca => .rlca
  | .rrca => .rrca
  | .rla => .rla
  | .rra => .rra

/-- The twelve opcodes with no instruction: the eleven gaps and 0xCB (R90, R92, R106, R107), with their bytes. -/
def Instr.undefinedOps : List (Byte × Instr) :=
  [(0xCB#8, .prefixCB), (0xD3#8, .gapD3), (0xDB#8, .gapDB), (0xDD#8, .gapDD), (0xE3#8, .gapE3), (0xE4#8, .gapE4),
   (0xEB#8, .gapEB), (0xEC#8, .gapEC), (0xED#8, .gapED), (0xF4#8, .gapF4), (0xFC#8, .gapFC), (0xFD#8, .gapFD)]

/-- STOP, HALT, DI, EI (R108 to R111), with their bytes. -/
def Instr.nongoalOps : List (Byte × Instr) :=
  [(0x10#8, .stop), (0x76#8, .halt), (0xF3#8, .di), (0xFB#8, .ei)]

end Sys2Proof
end

