-- ==== Sys2Proof/Decode.lean ====
section
/-! DEFINITION. The decoder, total on any bytes, and the encoder (30_encoding.md). The decoder is the opcode map of R89, row
by row; the encoder lists each constructor's opcode byte and immediates on its own. Also here: the byte order of a 16-bit
operand, the fields of an opcode byte, and the words of the opcode table. -/

namespace Sys2Proof

/-! ### Byte order (R57, R88) -/

/-- The 16-bit value `hi:lo` (R9). -/
def joinBytes (hi lo : Byte) : Word := hi ++ lo

/-- Bits 15 to 8. -/
def hiByte (w : Word) : Byte := w.extractLsb' 8 8

/-- Bits 7 to 0. -/
def loByte (w : Word) : Byte := w.extractLsb' 0 8

/-! ### The opcode map (R89): row `op[7:4]`, column `op[3:0]` -/

/-- The value of four bits, by its bits from 3 down to 0. -/
def Nibble.ofBits (v : BitVec 4) : Nibble :=
  match v.getLsbD 3, v.getLsbD 2, v.getLsbD 1, v.getLsbD 0 with
  | false, false, false, false => .x0
  | false, false, false, true => .x1
  | false, false, true, false => .x2
  | false, false, true, true => .x3
  | false, true, false, false => .x4
  | false, true, false, true => .x5
  | false, true, true, false => .x6
  | false, true, true, true => .x7
  | true, false, false, false => .x8
  | true, false, false, true => .x9
  | true, false, true, false => .xA
  | true, false, true, true => .xB
  | true, true, false, false => .xC
  | true, true, false, true => .xD
  | true, true, true, false => .xE
  | true, true, true, true => .xF

/-- `op[7:4]`. -/
def rowOf (op : Byte) : Nibble := Nibble.ofBits (op.extractLsb' 4 4)

/-- `op[3:0]`. -/
def columnOf (op : Byte) : Nibble := Nibble.ofBits (op.extractLsb' 0 4)

/-- Row 0x of R89. -/
def decodeRow0 (b1 b2 : Byte) (column : Nibble) : Instr :=
  match column with
  | .x0 => .nop
  | .x1 => .ldBCD16 (joinBytes b2 b1)
  | .x2 => .ldAtBCA
  | .x3 => .incBC
  | .x4 => .incB
  | .x5 => .decB
  | .x6 => .ldBD8 b1
  | .x7 => .rlca
  | .x8 => .ldAtA16SP (joinBytes b2 b1)
  | .x9 => .addHLBC
  | .xA => .ldAAtBC
  | .xB => .decBC
  | .xC => .incC
  | .xD => .decC
  | .xE => .ldCD8 b1
  | .xF => .rrca

/-- Row 1x of R89. -/
def decodeRow1 (b1 b2 : Byte) (column : Nibble) : Instr :=
  match column with
  | .x0 => .stop
  | .x1 => .ldDED16 (joinBytes b2 b1)
  | .x2 => .ldAtDEA
  | .x3 => .incDE
  | .x4 => .incD
  | .x5 => .decD
  | .x6 => .ldDD8 b1
  | .x7 => .rla
  | .x8 => .jrE8 b1
  | .x9 => .addHLDE
  | .xA => .ldAAtDE
  | .xB => .decDE
  | .xC => .incE
  | .xD => .decE
  | .xE => .ldED8 b1
  | .xF => .rra

/-- Row 2x of R89. -/
def decodeRow2 (b1 b2 : Byte) (column : Nibble) : Instr :=
  match column with
  | .x0 => .jrNZE8 b1
  | .x1 => .ldHLD16 (joinBytes b2 b1)
  | .x2 => .ldAtHLIncA
  | .x3 => .incHL
  | .x4 => .incH
  | .x5 => .decH
  | .x6 => .ldHD8 b1
  | .x7 => .daa
  | .x8 => .jrZE8 b1
  | .x9 => .addHLHL
  | .xA => .ldAAtHLInc
  | .xB => .decHL
  | .xC => .incL
  | .xD => .decL
  | .xE => .ldLD8 b1
  | .xF => .cpl

/-- Row 3x of R89. -/
def decodeRow3 (b1 b2 : Byte) (column : Nibble) : Instr :=
  match column with
  | .x0 => .jrNCE8 b1
  | .x1 => .ldSPD16 (joinBytes b2 b1)
  | .x2 => .ldAtHLDecA
  | .x3 => .incSP
  | .x4 => .incAtHL
  | .x5 => .decAtHL
  | .x6 => .ldAtHLD8 b1
  | .x7 => .scf
  | .x8 => .jrCE8 b1
  | .x9 => .addHLSP
  | .xA => .ldAAtHLDec
  | .xB => .decSP
  | .xC => .incA
  | .xD => .decA
  | .xE => .ldAD8 b1
  | .xF => .ccf

/-- Row 4x of R89. -/
def decodeRow4 (_b1 _b2 : Byte) (column : Nibble) : Instr :=
  match column with
  | .x0 => .ldBB
  | .x1 => .ldBC
  | .x2 => .ldBD
  | .x3 => .ldBE
  | .x4 => .ldBH
  | .x5 => .ldBL
  | .x6 => .ldBAtHL
  | .x7 => .ldBA
  | .x8 => .ldCB
  | .x9 => .ldCC
  | .xA => .ldCD
  | .xB => .ldCE
  | .xC => .ldCH
  | .xD => .ldCL
  | .xE => .ldCAtHL
  | .xF => .ldCA

/-- Row 5x of R89. -/
def decodeRow5 (_b1 _b2 : Byte) (column : Nibble) : Instr :=
  match column with
  | .x0 => .ldDB
  | .x1 => .ldDC
  | .x2 => .ldDD
  | .x3 => .ldDE
  | .x4 => .ldDH
  | .x5 => .ldDL
  | .x6 => .ldDAtHL
  | .x7 => .ldDA
  | .x8 => .ldEB
  | .x9 => .ldEC
  | .xA => .ldED
  | .xB => .ldEE
  | .xC => .ldEH
  | .xD => .ldEL
  | .xE => .ldEAtHL
  | .xF => .ldEA

/-- Row 6x of R89. -/
def decodeRow6 (_b1 _b2 : Byte) (column : Nibble) : Instr :=
  match column with
  | .x0 => .ldHB
  | .x1 => .ldHC
  | .x2 => .ldHD
  | .x3 => .ldHE
  | .x4 => .ldHH
  | .x5 => .ldHL
  | .x6 => .ldHAtHL
  | .x7 => .ldHA
  | .x8 => .ldLB
  | .x9 => .ldLC
  | .xA => .ldLD
  | .xB => .ldLE
  | .xC => .ldLH
  | .xD => .ldLL
  | .xE => .ldLAtHL
  | .xF => .ldLA

/-- Row 7x of R89. -/
def decodeRow7 (_b1 _b2 : Byte) (column : Nibble) : Instr :=
  match column with
  | .x0 => .ldAtHLB
  | .x1 => .ldAtHLC
  | .x2 => .ldAtHLD
  | .x3 => .ldAtHLE
  | .x4 => .ldAtHLH
  | .x5 => .ldAtHLL
  | .x6 => .halt
  | .x7 => .ldAtHLA
  | .x8 => .ldAB
  | .x9 => .ldAC
  | .xA => .ldAD
  | .xB => .ldAE
  | .xC => .ldAH
  | .xD => .ldAL
  | .xE => .ldAAtHL
  | .xF => .ldAA

/-- Row 8x of R89. -/
def decodeRow8 (_b1 _b2 : Byte) (column : Nibble) : Instr :=
  match column with
  | .x0 => .addAB
  | .x1 => .addAC
  | .x2 => .addAD
  | .x3 => .addAE
  | .x4 => .addAH
  | .x5 => .addAL
  | .x6 => .addAAtHL
  | .x7 => .addAA
  | .x8 => .adcAB
  | .x9 => .adcAC
  | .xA => .adcAD
  | .xB => .adcAE
  | .xC => .adcAH
  | .xD => .adcAL
  | .xE => .adcAAtHL
  | .xF => .adcAA

/-- Row 9x of R89. -/
def decodeRow9 (_b1 _b2 : Byte) (column : Nibble) : Instr :=
  match column with
  | .x0 => .subB
  | .x1 => .subC
  | .x2 => .subD
  | .x3 => .subE
  | .x4 => .subH
  | .x5 => .subL
  | .x6 => .subAtHL
  | .x7 => .subA
  | .x8 => .sbcAB
  | .x9 => .sbcAC
  | .xA => .sbcAD
  | .xB => .sbcAE
  | .xC => .sbcAH
  | .xD => .sbcAL
  | .xE => .sbcAAtHL
  | .xF => .sbcAA

/-- Row Ax of R89. -/
def decodeRowA (_b1 _b2 : Byte) (column : Nibble) : Instr :=
  match column with
  | .x0 => .andB
  | .x1 => .andC
  | .x2 => .andD
  | .x3 => .andE
  | .x4 => .andH
  | .x5 => .andL
  | .x6 => .andAtHL
  | .x7 => .andA
  | .x8 => .xorB
  | .x9 => .xorC
  | .xA => .xorD
  | .xB => .xorE
  | .xC => .xorH
  | .xD => .xorL
  | .xE => .xorAtHL
  | .xF => .xorA

/-- Row Bx of R89. -/
def decodeRowB (_b1 _b2 : Byte) (column : Nibble) : Instr :=
  match column with
  | .x0 => .orB
  | .x1 => .orC
  | .x2 => .orD
  | .x3 => .orE
  | .x4 => .orH
  | .x5 => .orL
  | .x6 => .orAtHL
  | .x7 => .orA
  | .x8 => .cpB
  | .x9 => .cpC
  | .xA => .cpD
  | .xB => .cpE
  | .xC => .cpH
  | .xD => .cpL
  | .xE => .cpAtHL
  | .xF => .cpA

/-- Row Cx of R89. -/
def decodeRowC (b1 b2 : Byte) (column : Nibble) : Instr :=
  match column with
  | .x0 => .retNZ
  | .x1 => .popBC
  | .x2 => .jpNZA16 (joinBytes b2 b1)
  | .x3 => .jpA16 (joinBytes b2 b1)
  | .x4 => .callNZA16 (joinBytes b2 b1)
  | .x5 => .pushBC
  | .x6 => .addAD8 b1
  | .x7 => .rst00
  | .x8 => .retZ
  | .x9 => .ret
  | .xA => .jpZA16 (joinBytes b2 b1)
  | .xB => .prefixCB
  | .xC => .callZA16 (joinBytes b2 b1)
  | .xD => .callA16 (joinBytes b2 b1)
  | .xE => .adcAD8 b1
  | .xF => .rst08

/-- Row Dx of R89. -/
def decodeRowD (b1 b2 : Byte) (column : Nibble) : Instr :=
  match column with
  | .x0 => .retNC
  | .x1 => .popDE
  | .x2 => .jpNCA16 (joinBytes b2 b1)
  | .x3 => .gapD3
  | .x4 => .callNCA16 (joinBytes b2 b1)
  | .x5 => .pushDE
  | .x6 => .subD8 b1
  | .x7 => .rst10
  | .x8 => .retC
  | .x9 => .reti
  | .xA => .jpCA16 (joinBytes b2 b1)
  | .xB => .gapDB
  | .xC => .callCA16 (joinBytes b2 b1)
  | .xD => .gapDD
  | .xE => .sbcAD8 b1
  | .xF => .rst18

/-- Row Ex of R89. -/
def decodeRowE (b1 b2 : Byte) (column : Nibble) : Instr :=
  match column with
  | .x0 => .ldhAtA8A b1
  | .x1 => .popHL
  | .x2 => .ldAtCA
  | .x3 => .gapE3
  | .x4 => .gapE4
  | .x5 => .pushHL
  | .x6 => .andD8 b1
  | .x7 => .rst20
  | .x8 => .addSPE8 b1
  | .x9 => .jpHL
  | .xA => .ldAtA16A (joinBytes b2 b1)
  | .xB => .gapEB
  | .xC => .gapEC
  | .xD => .gapED
  | .xE => .xorD8 b1
  | .xF => .rst28

/-- Row Fx of R89. -/
def decodeRowF (b1 b2 : Byte) (column : Nibble) : Instr :=
  match column with
  | .x0 => .ldhAAtA8 b1
  | .x1 => .popAF
  | .x2 => .ldAAtC
  | .x3 => .di
  | .x4 => .gapF4
  | .x5 => .pushAF
  | .x6 => .orD8 b1
  | .x7 => .rst30
  | .x8 => .ldHLSPE8 b1
  | .x9 => .ldSPHL
  | .xA => .ldAAtA16 (joinBytes b2 b1)
  | .xB => .ei
  | .xC => .gapFC
  | .xD => .gapFD
  | .xE => .cpD8 b1
  | .xF => .rst38

/-- The instruction of opcode byte `op` with immediate bytes `b1`, `b2` after it (R81, R103): total, one handler for each byte.
A one-byte instruction does not look at `b1` and `b2`, a two-byte one not at `b2`. -/
def decodeOp (op b1 b2 : Byte) : Instr :=
  match rowOf op with
  | .x0 => decodeRow0 b1 b2 (columnOf op)
  | .x1 => decodeRow1 b1 b2 (columnOf op)
  | .x2 => decodeRow2 b1 b2 (columnOf op)
  | .x3 => decodeRow3 b1 b2 (columnOf op)
  | .x4 => decodeRow4 b1 b2 (columnOf op)
  | .x5 => decodeRow5 b1 b2 (columnOf op)
  | .x6 => decodeRow6 b1 b2 (columnOf op)
  | .x7 => decodeRow7 b1 b2 (columnOf op)
  | .x8 => decodeRow8 b1 b2 (columnOf op)
  | .x9 => decodeRow9 b1 b2 (columnOf op)
  | .xA => decodeRowA b1 b2 (columnOf op)
  | .xB => decodeRowB b1 b2 (columnOf op)
  | .xC => decodeRowC b1 b2 (columnOf op)
  | .xD => decodeRowD b1 b2 (columnOf op)
  | .xE => decodeRowE b1 b2 (columnOf op)
  | .xF => decodeRowF b1 b2 (columnOf op)

/-! ### Lengths (R80, R81): the opcode byte alone decides -/

/-- The opcodes with one immediate byte: the formats op_d8, op_e8, op_a8 of R81. -/
def oneByteImmediateOps : List Byte :=
  -- op_d8
  [0x06, 0x0E, 0x16, 0x1E, 0x26, 0x2E, 0x36, 0x3E, 0xC6, 0xCE, 0xD6, 0xDE, 0xE6, 0xEE, 0xF6, 0xFE] ++
  -- op_e8
  [0x18, 0x20, 0x28, 0x30, 0x38, 0xE8, 0xF8] ++
  -- op_a8
  [0xE0, 0xF0]

/-- The opcodes with two immediate bytes: the formats op_d16, op_a16 of R81. -/
def twoByteImmediateOps : List Byte :=
  -- op_d16
  [0x01, 0x11, 0x21, 0x31] ++
  -- op_a16
  [0x08, 0xC2, 0xC3, 0xC4, 0xCA, 0xCC, 0xCD, 0xD2, 0xD4, 0xDA, 0xDC, 0xEA, 0xFA]

/-- How many immediate bytes follow opcode `op` (R80, R81). -/
def immediateCount (op : Byte) : Nat :=
  if op ∈ oneByteImmediateOps then 1 else if op ∈ twoByteImmediateOps then 2 else 0

/-- What decoding a list of bytes gives: an instruction with the bytes after it, or a rejection by name. -/
inductive Decoded
  /-- The bytes begin with this instruction; `rest` follows it. -/
  | instr (i : Instr) (rest : List Byte)
  /-- There is no opcode byte. -/
  | noOpcode
  /-- The bytes end before the immediates of `op` do. -/
  | missingImmediate (op : Byte)
  deriving DecidableEq, Repr

/-- Decode the instruction at the head of a list of bytes, total on any bytes. In memory there is always a next byte, so the
two rejections are met only by a list that is too short. -/
def decode (bytes : List Byte) : Decoded :=
  match bytes with
  | [] => .noOpcode
  | op :: after =>
    match immediateCount op, after with
    | 0, rest => .instr (decodeOp op 0#8 0#8) rest
    | 1, b1 :: rest => .instr (decodeOp op b1 0#8) rest
    | 2, b1 :: b2 :: rest => .instr (decodeOp op b1 b2) rest
    | _, _ => .missingImmediate op

/-! ### The encoder -/

/-- The bytes of an instruction, lowest address first (R81): the opcode, then the immediate bytes, low byte first. -/
def Instr.encode (i : Instr) : List Byte :=
  match i with
  | .nop => [0x00#8]
  | .ldBCD16 v => [0x01#8, loByte v, hiByte v]
  | .ldAtBCA => [0x02#8]
  | .incBC => [0x03#8]
  | .incB => [0x04#8]
  | .decB => [0x05#8]
  | .ldBD8 v => [0x06#8, v]
  | .rlca => [0x07#8]
  | .ldAtA16SP a => [0x08#8, loByte a, hiByte a]
  | .addHLBC => [0x09#8]
  | .ldAAtBC => [0x0A#8]
  | .decBC => [0x0B#8]
  | .incC => [0x0C#8]
  | .decC => [0x0D#8]
  | .ldCD8 v => [0x0E#8, v]
  | .rrca => [0x0F#8]
  | .stop => [0x10#8]
  | .ldDED16 v => [0x11#8, loByte v, hiByte v]
  | .ldAtDEA => [0x12#8]
  | .incDE => [0x13#8]
  | .incD => [0x14#8]
  | .decD => [0x15#8]
  | .ldDD8 v => [0x16#8, v]
  | .rla => [0x17#8]
  | .jrE8 e => [0x18#8, e]
  | .addHLDE => [0x19#8]
  | .ldAAtDE => [0x1A#8]
  | .decDE => [0x1B#8]
  | .incE => [0x1C#8]
  | .decE => [0x1D#8]
  | .ldED8 v => [0x1E#8, v]
  | .rra => [0x1F#8]
  | .jrNZE8 e => [0x20#8, e]
  | .ldHLD16 v => [0x21#8, loByte v, hiByte v]
  | .ldAtHLIncA => [0x22#8]
  | .incHL => [0x23#8]
  | .incH => [0x24#8]
  | .decH => [0x25#8]
  | .ldHD8 v => [0x26#8, v]
  | .daa => [0x27#8]
  | .jrZE8 e => [0x28#8, e]
  | .addHLHL => [0x29#8]
  | .ldAAtHLInc => [0x2A#8]
  | .decHL => [0x2B#8]
  | .incL => [0x2C#8]
  | .decL => [0x2D#8]
  | .ldLD8 v => [0x2E#8, v]
  | .cpl => [0x2F#8]
  | .jrNCE8 e => [0x30#8, e]
  | .ldSPD16 v => [0x31#8, loByte v, hiByte v]
  | .ldAtHLDecA => [0x32#8]
  | .incSP => [0x33#8]
  | .incAtHL => [0x34#8]
  | .decAtHL => [0x35#8]
  | .ldAtHLD8 v => [0x36#8, v]
  | .scf => [0x37#8]
  | .jrCE8 e => [0x38#8, e]
  | .addHLSP => [0x39#8]
  | .ldAAtHLDec => [0x3A#8]
  | .decSP => [0x3B#8]
  | .incA => [0x3C#8]
  | .decA => [0x3D#8]
  | .ldAD8 v => [0x3E#8, v]
  | .ccf => [0x3F#8]
  | .ldBB => [0x40#8]
  | .ldBC => [0x41#8]
  | .ldBD => [0x42#8]
  | .ldBE => [0x43#8]
  | .ldBH => [0x44#8]
  | .ldBL => [0x45#8]
  | .ldBAtHL => [0x46#8]
  | .ldBA => [0x47#8]
  | .ldCB => [0x48#8]
  | .ldCC => [0x49#8]
  | .ldCD => [0x4A#8]
  | .ldCE => [0x4B#8]
  | .ldCH => [0x4C#8]
  | .ldCL => [0x4D#8]
  | .ldCAtHL => [0x4E#8]
  | .ldCA => [0x4F#8]
  | .ldDB => [0x50#8]
  | .ldDC => [0x51#8]
  | .ldDD => [0x52#8]
  | .ldDE => [0x53#8]
  | .ldDH => [0x54#8]
  | .ldDL => [0x55#8]
  | .ldDAtHL => [0x56#8]
  | .ldDA => [0x57#8]
  | .ldEB => [0x58#8]
  | .ldEC => [0x59#8]
  | .ldED => [0x5A#8]
  | .ldEE => [0x5B#8]
  | .ldEH => [0x5C#8]
  | .ldEL => [0x5D#8]
  | .ldEAtHL => [0x5E#8]
  | .ldEA => [0x5F#8]
  | .ldHB => [0x60#8]
  | .ldHC => [0x61#8]
  | .ldHD => [0x62#8]
  | .ldHE => [0x63#8]
  | .ldHH => [0x64#8]
  | .ldHL => [0x65#8]
  | .ldHAtHL => [0x66#8]
  | .ldHA => [0x67#8]
  | .ldLB => [0x68#8]
  | .ldLC => [0x69#8]
  | .ldLD => [0x6A#8]
  | .ldLE => [0x6B#8]
  | .ldLH => [0x6C#8]
  | .ldLL => [0x6D#8]
  | .ldLAtHL => [0x6E#8]
  | .ldLA => [0x6F#8]
  | .ldAtHLB => [0x70#8]
  | .ldAtHLC => [0x71#8]
  | .ldAtHLD => [0x72#8]
  | .ldAtHLE => [0x73#8]
  | .ldAtHLH => [0x74#8]
  | .ldAtHLL => [0x75#8]
  | .halt => [0x76#8]
  | .ldAtHLA => [0x77#8]
  | .ldAB => [0x78#8]
  | .ldAC => [0x79#8]
  | .ldAD => [0x7A#8]
  | .ldAE => [0x7B#8]
  | .ldAH => [0x7C#8]
  | .ldAL => [0x7D#8]
  | .ldAAtHL => [0x7E#8]
  | .ldAA => [0x7F#8]
  | .addAB => [0x80#8]
  | .addAC => [0x81#8]
  | .addAD => [0x82#8]
  | .addAE => [0x83#8]
  | .addAH => [0x84#8]
  | .addAL => [0x85#8]
  | .addAAtHL => [0x86#8]
  | .addAA => [0x87#8]
  | .adcAB => [0x88#8]
  | .adcAC => [0x89#8]
  | .adcAD => [0x8A#8]
  | .adcAE => [0x8B#8]
  | .adcAH => [0x8C#8]
  | .adcAL => [0x8D#8]
  | .adcAAtHL => [0x8E#8]
  | .adcAA => [0x8F#8]
  | .subB => [0x90#8]
  | .subC => [0x91#8]
  | .subD => [0x92#8]
  | .subE => [0x93#8]
  | .subH => [0x94#8]
  | .subL => [0x95#8]
  | .subAtHL => [0x96#8]
  | .subA => [0x97#8]
  | .sbcAB => [0x98#8]
  | .sbcAC => [0x99#8]
  | .sbcAD => [0x9A#8]
  | .sbcAE => [0x9B#8]
  | .sbcAH => [0x9C#8]
  | .sbcAL => [0x9D#8]
  | .sbcAAtHL => [0x9E#8]
  | .sbcAA => [0x9F#8]
  | .andB => [0xA0#8]
  | .andC => [0xA1#8]
  | .andD => [0xA2#8]
  | .andE => [0xA3#8]
  | .andH => [0xA4#8]
  | .andL => [0xA5#8]
  | .andAtHL => [0xA6#8]
  | .andA => [0xA7#8]
  | .xorB => [0xA8#8]
  | .xorC => [0xA9#8]
  | .xorD => [0xAA#8]
  | .xorE => [0xAB#8]
  | .xorH => [0xAC#8]
  | .xorL => [0xAD#8]
  | .xorAtHL => [0xAE#8]
  | .xorA => [0xAF#8]
  | .orB => [0xB0#8]
  | .orC => [0xB1#8]
  | .orD => [0xB2#8]
  | .orE => [0xB3#8]
  | .orH => [0xB4#8]
  | .orL => [0xB5#8]
  | .orAtHL => [0xB6#8]
  | .orA => [0xB7#8]
  | .cpB => [0xB8#8]
  | .cpC => [0xB9#8]
  | .cpD => [0xBA#8]
  | .cpE => [0xBB#8]
  | .cpH => [0xBC#8]
  | .cpL => [0xBD#8]
  | .cpAtHL => [0xBE#8]
  | .cpA => [0xBF#8]
  | .retNZ => [0xC0#8]
  | .popBC => [0xC1#8]
  | .jpNZA16 a => [0xC2#8, loByte a, hiByte a]
  | .jpA16 a => [0xC3#8, loByte a, hiByte a]
  | .callNZA16 a => [0xC4#8, loByte a, hiByte a]
  | .pushBC => [0xC5#8]
  | .addAD8 v => [0xC6#8, v]
  | .rst00 => [0xC7#8]
  | .retZ => [0xC8#8]
  | .ret => [0xC9#8]
  | .jpZA16 a => [0xCA#8, loByte a, hiByte a]
  | .prefixCB => [0xCB#8]
  | .callZA16 a => [0xCC#8, loByte a, hiByte a]
  | .callA16 a => [0xCD#8, loByte a, hiByte a]
  | .adcAD8 v => [0xCE#8, v]
  | .rst08 => [0xCF#8]
  | .retNC => [0xD0#8]
  | .popDE => [0xD1#8]
  | .jpNCA16 a => [0xD2#8, loByte a, hiByte a]
  | .gapD3 => [0xD3#8]
  | .callNCA16 a => [0xD4#8, loByte a, hiByte a]
  | .pushDE => [0xD5#8]
  | .subD8 v => [0xD6#8, v]
  | .rst10 => [0xD7#8]
  | .retC => [0xD8#8]
  | .reti => [0xD9#8]
  | .jpCA16 a => [0xDA#8, loByte a, hiByte a]
  | .gapDB => [0xDB#8]
  | .callCA16 a => [0xDC#8, loByte a, hiByte a]
  | .gapDD => [0xDD#8]
  | .sbcAD8 v => [0xDE#8, v]
  | .rst18 => [0xDF#8]
  | .ldhAtA8A n => [0xE0#8, n]
  | .popHL => [0xE1#8]
  | .ldAtCA => [0xE2#8]
  | .gapE3 => [0xE3#8]
  | .gapE4 => [0xE4#8]
  | .pushHL => [0xE5#8]
  | .andD8 v => [0xE6#8, v]
  | .rst20 => [0xE7#8]
  | .addSPE8 e => [0xE8#8, e]
  | .jpHL => [0xE9#8]
  | .ldAtA16A a => [0xEA#8, loByte a, hiByte a]
  | .gapEB => [0xEB#8]
  | .gapEC => [0xEC#8]
  | .gapED => [0xED#8]
  | .xorD8 v => [0xEE#8, v]
  | .rst28 => [0xEF#8]
  | .ldhAAtA8 n => [0xF0#8, n]
  | .popAF => [0xF1#8]
  | .ldAAtC => [0xF2#8]
  | .di => [0xF3#8]
  | .gapF4 => [0xF4#8]
  | .pushAF => [0xF5#8]
  | .orD8 v => [0xF6#8, v]
  | .rst30 => [0xF7#8]
  | .ldHLSPE8 e => [0xF8#8, e]
  | .ldSPHL => [0xF9#8]
  | .ldAAtA16 a => [0xFA#8, loByte a, hiByte a]
  | .ei => [0xFB#8]
  | .gapFC => [0xFC#8]
  | .gapFD => [0xFD#8]
  | .cpD8 v => [0xFE#8, v]
  | .rst38 => [0xFF#8]

/-- How many bytes an instruction takes. -/
def Instr.length (i : Instr) : Nat := i.encode.length

/-! ### Field values (R82 to R87) -/

/-- Field `r` (R82); 6 is not a register. -/
def Reg8.field (r : Reg8) : Nat :=
  match r with
  | .b => 0 | .c => 1 | .d => 2 | .e => 3 | .h => 4 | .l => 5 | .a => 7

/-- Field `rr` (R83). -/
def Pair.field (p : Pair) : Nat :=
  match p with
  | .bc => 0 | .de => 1 | .hl => 2 | .sp => 3

/-- Field `qq` (R84). -/
def StackPair.field (q : StackPair) : Nat :=
  match q with
  | .bc => 0 | .de => 1 | .hl => 2 | .af => 3

/-- Field `cc` (R85). -/
def Cond.field (cc : Cond) : Nat :=
  match cc with
  | .nz => 0 | .z => 1 | .nc => 2 | .c => 3

/-- Field `alu` (R86). -/
def AluOp.field (op : AluOp) : Nat :=
  match op with
  | .add => 0 | .adc => 1 | .sub => 2 | .sbc => 3 | .and => 4 | .xor => 5 | .or => 6 | .cp => 7

/-- Field `t` (R87). -/
def RstVec.field (t : RstVec) : Nat :=
  match t with
  | .v00 => 0 | .v08 => 1 | .v10 => 2 | .v18 => 3 | .v20 => 4 | .v28 => 5 | .v30 => 6 | .v38 => 7

/-! ### The words of the opcode table -/

/-- The bytes of an instruction whose bits are `w`, bit 0 the least significant bit of the first byte; the bits from `nbits` up
are 0. Three bytes, the longest instruction. -/
def tableBytes (nbits w : Nat) : List Byte :=
  [BitVec.ofNat 8 (w % 2 ^ nbits), BitVec.ofNat 8 (w % 2 ^ nbits / 2 ^ 8), BitVec.ofNat 8 (w % 2 ^ nbits / 2 ^ 16)]

/-- What `decode` reads from the bytes of a table word. -/
def decodeTableWord (nbits w : Nat) : Option Instr :=
  match decode (tableBytes nbits w) with
  | .instr i _ => some i
  | .noOpcode => none
  | .missingImmediate _ => none

end Sys2Proof
end

