-- ==== Sys2Proof/Config.lean ====
section
/-! DEFINITION. The seven named parameters of 00_scope.md R8, fixed for a run, and their defaults. The core has no
free value (93_implementation_defined.md: no behaviour is "any value"), so nothing here is opaque. -/

namespace Sys2Proof

/-- `UNDEF_OP_POLICY` (D10): the eleven gaps and 0xCB. -/
inductive UndefOpPolicy
  | nop | fault
  deriving DecidableEq, Repr

/-- `NONGOAL_OP_POLICY` (D11): STOP, HALT, DI, EI. -/
inductive NongoalOpPolicy
  | nop | fault
  deriving DecidableEq, Repr

/-- `DAA_POLICY` (D12): DAA. -/
inductive DaaPolicy
  | nop | lr35902 | fault
  deriving DecidableEq, Repr

/-- `RETI_POLICY` (D13): RETI. -/
inductive RetiPolicy
  | nop | ret
  deriving DecidableEq, Repr

/-- `INCDEC8_FLAG_POLICY` (D14): N and H after an 8-bit INC or DEC. -/
inductive IncDec8FlagPolicy
  | zOnly | lr35902
  deriving DecidableEq, Repr

/-- `ROTA_FLAG_POLICY` (D17): Z, N and H after an accumulator rotate. -/
inductive RotaFlagPolicy
  | preserve | lr35902
  deriving DecidableEq, Repr

/-- The parameters of R8, in the order of its table. -/
structure Config where
  undefOp      : UndefOpPolicy
  nongoalOp    : NongoalOpPolicy
  daa          : DaaPolicy
  reti         : RetiPolicy
  incDec8Flags : IncDec8FlagPolicy
  rotaFlags    : RotaFlagPolicy
  resetPc      : Word
  deriving DecidableEq, Repr

/-- The default column of R8's table. -/
def Config.default : Config :=
  { undefOp := .nop, nongoalOp := .nop, daa := .nop, reti := .nop,
    incDec8Flags := .zOnly, rotaFlags := .preserve, resetPc := 0x0100#16 }

end Sys2Proof
end

