-- ==== Sys2Proof/Machine/State.lean ====
section
/-! DEFINITION. The state of the core (10_state.md) as plain data, the reasons it can stop, and its construction values. -/

namespace Sys2Proof.Machine

/-- The model fault reasons of 60_exceptions.md R231. Raised only under a `fault` value of a parameter, before anything changes,
and then kept in the fault mark; `step` answers them for a state whose mark is set (R113). Safe: under the default parameters none is
ever raised. -/
inductive Fault
  /-- Raised by the eleven gaps and 0xCB when `UNDEF_OP_POLICY = fault` (R106, R107). Safe. -/
  | undefinedOpcode (op : Byte)
  /-- Raised by STOP, HALT, DI, EI when `NONGOAL_OP_POLICY = fault` (R108 to R111) and by DAA when `DAA_POLICY = fault` (R145). Safe. -/
  | unimplementedOpcode (op : Byte)
  deriving DecidableEq, Repr

/-- Why the model would give an instruction no meaning. -/
inductive Refusal
  /-- An instruction with no meaning yet. No arm of `exec` answers it: every instruction is modelled. Safe. -/
  | notModelled (mnemonic : String)
  deriving DecidableEq, Repr

/-- Memory as the list of the bytes that are not 0x00, by rising address (R35; 0x00 is what R38 gives every other byte). Its canonical
form is `Memory.wf` of Machine/Ops.lean. -/
abbrev Memory := List Host.Cell

/-- The complete state of 10_state.md: the register halves (R20, R21), SP and PC (R24), memory (R35), the sink, oldest byte first
(R34), the model's fault mark (R33), and the parameters of R8, which no step changes (log 1). -/
structure State where
  a : Byte
  f : Byte
  b : Byte
  c : Byte
  d : Byte
  e : Byte
  h : Byte
  l : Byte
  sp : Word
  pc : Word
  mem : Memory
  sink : List Byte
  faultMark : Option Fault
  cfg : Config
  deriving DecidableEq, Repr

/-- The state at construction under parameters `cfg`, before the loader (R38, R250, R251). -/
def State.construct (cfg : Config) : State :=
  { a := 0x00, f := 0x00, b := 0x00, c := 0x00, d := 0x00, e := 0x00, h := 0x00, l := 0x00,
    sp := 0x0000, pc := cfg.resetPc, mem := [], sink := [], faultMark := none, cfg := cfg }

/-- Construction with every parameter at its default (R8): PC = 0x0100. -/
def State.reset : State := State.construct Config.default

/-- The answer of an instruction's meaning. -/
abbrev Result := Host.Outcome State Fault Refusal

end Sys2Proof.Machine
end

