-- ==== Sys2Proof/Machine/Ops.lean ====
section
/-! DEFINITION. The named operations over memory, registers, the stack and the program counter, and raising a model fault. -/

namespace Sys2Proof.Machine

/-! ### Memory -/

/-- What an address that the list does not hold reads as (R38). -/
def Memory.unlisted : Byte := 0x00#8

/-- The byte at `a`. -/
def Memory.read (m : Memory) (a : Nat) : Byte :=
  match m with
  | [] => Memory.unlisted
  | cell :: rest => if cell.1 = a then cell.2 else Memory.read rest a

/-- The list without an entry for `a`. -/
def Memory.erase (m : Memory) (a : Nat) : Memory := m.filter (fun cell => cell.1 != a)

/-- Put an entry for `a` before the first higher address. -/
def Memory.insert (m : Memory) (a : Nat) (v : Byte) : Memory :=
  match m with
  | [] => [(a, v)]
  | cell :: rest => if a < cell.1 then (a, v) :: cell :: rest else cell :: Memory.insert rest a v

/-- The memory with byte `v` at `a`, in canonical form. -/
def Memory.write (m : Memory) (a : Nat) (v : Byte) : Memory :=
  if v = Memory.unlisted then m.erase a else (m.erase a).insert a v

/-- The canonical form: addresses strictly rising, inside the 64 KiB space (R50), and no entry that says what an unlisted address
says. -/
abbrev Memory.wf (m : Memory) : Prop :=
  m.Pairwise (fun x y => x.1 < y.1) ∧ ∀ cell ∈ m, cell.1 < 65536 ∧ cell.2 ≠ Memory.unlisted

/-- The one diverted address (R7, R56). -/
def sinkAddress : Word := 0xFF01#16

/-- `MemRead(a, 1)`: the stored byte, with no side effect (R52), at 0xFF01 too (R53). -/
def State.memRead (s : State) (a : Word) : Byte := s.mem.read a.toNat

/-- `MemWrite(a, 1, v)`: at 0xFF01 the byte goes to the sink and is not stored (R56), elsewhere it is stored (R54). -/
def State.memWrite (s : State) (a : Word) (v : Byte) : State :=
  if a = sinkAddress then { s with sink := s.sink ++ [v] }
  else { s with mem := s.mem.write a.toNat v }

/-- The 16-bit value at `a`, low byte at the lower address, wrapping past 0xFFFF (R55). -/
def State.memRead16 (s : State) (a : Word) : Word := joinBytes (s.memRead (a + 1#16)) (s.memRead a)

/-- The loader: bytes stored from `a` up, at any address and not through `MemWrite`; it writes no register (R69, R252). -/
def State.load (s : State) (a : Word) (bytes : List Byte) : State :=
  match bytes with
  | [] => s
  | v :: rest => State.load { s with mem := s.mem.write a.toNat v } (a + 1#16) rest

/-! ### Registers -/

/-- `x[r]`. -/
def State.readReg (s : State) (r : Reg8) : Byte :=
  match r with
  | .b => s.b | .c => s.c | .d => s.d | .e => s.e | .h => s.h | .l => s.l | .a => s.a

/-- `x[r] <- v`: the other half of the pair is left alone (R22). -/
def State.writeReg (s : State) (r : Reg8) (v : Byte) : State :=
  match r with
  | .b => { s with b := v }
  | .c => { s with c := v }
  | .d => { s with d := v }
  | .e => { s with e := v }
  | .h => { s with h := v }
  | .l => { s with l := v }
  | .a => { s with a := v }

/-- `x[F] <- v`, F written as a whole byte: bits 3 to 0 stored as 0 (R27). -/
def State.writeF (s : State) (v : Byte) : State := { s with f := v &&& 0xF0#8 }

/-- `x[BC]` (R21). -/
def State.bc (s : State) : Word := joinBytes s.b s.c

/-- `x[DE]` (R21). -/
def State.de (s : State) : Word := joinBytes s.d s.e

/-- `x[HL]` (R21). -/
def State.hl (s : State) : Word := joinBytes s.h s.l

/-- `x[AF]` (R21). -/
def State.af (s : State) : Word := joinBytes s.a s.f

/-- `x[BC] <- v` (R23). -/
def State.writeBC (s : State) (v : Word) : State := { s with b := hiByte v, c := loByte v }

/-- `x[DE] <- v` (R23). -/
def State.writeDE (s : State) (v : Word) : State := { s with d := hiByte v, e := loByte v }

/-- `x[HL] <- v` (R23). -/
def State.writeHL (s : State) (v : Word) : State := { s with h := hiByte v, l := loByte v }

/-- `x[AF] <- v` (R23), with bits 3 to 0 of F kept zero (R27, R186). -/
def State.writeAF (s : State) (v : Word) : State := ({ s with a := hiByte v }).writeF (loByte v)

/-- `x[rr]`. -/
def State.readPair (s : State) (p : Pair) : Word :=
  match p with
  | .bc => s.bc | .de => s.de | .hl => s.hl | .sp => s.sp

/-- `x[rr] <- v`. -/
def State.writePair (s : State) (p : Pair) (v : Word) : State :=
  match p with
  | .bc => s.writeBC v
  | .de => s.writeDE v
  | .hl => s.writeHL v
  | .sp => { s with sp := v }

/-- `x[qq]`. -/
def State.readStackPair (s : State) (q : StackPair) : Word :=
  match q with
  | .bc => s.bc | .de => s.de | .hl => s.hl | .af => s.af

/-- `x[qq] <- v`. -/
def State.writeStackPair (s : State) (q : StackPair) (v : Word) : State :=
  match q with
  | .bc => s.writeBC v
  | .de => s.writeDE v
  | .hl => s.writeHL v
  | .af => s.writeAF v

/-! ### Program counter -/

/-- PC moved past the `n` bytes of an instruction, mod 2^16 (R30, R101, R102). Reads change nothing (R52), so moving past the
immediates at once gives every rule the PC it names. -/
def State.advance (s : State) (n : Nat) : State := { s with pc := s.pc + BitVec.ofNat 16 n }

/-- `pc <- target`, a transfer taken (R104). -/
def State.jump (s : State) (target : Word) : State := { s with pc := target }

/-- `sext_16(e)` (R11). -/
def sext16 (e : Byte) : Word := e.signExtend 16

/-! ### The stack -/

/-- `push16(v)` (R183): the high byte at SP-1, then the low byte at SP-2; SP ends at SP-2. -/
def State.push16 (s : State) (v : Word) : State :=
  { ((s.memWrite (s.sp - 1#16) (hiByte v)).memWrite (s.sp - 2#16) (loByte v)) with sp := s.sp - 2#16 }

/-- The value `pop16()` returns (R184): the low byte at SP, the high byte at SP+1. -/
def State.popValue (s : State) : Word := s.memRead16 s.sp

/-- What `pop16()` leaves (R184): SP moved up by 2, memory unchanged. -/
def State.popped (s : State) : State := { s with sp := s.sp + 2#16 }

/-! ### Model faults -/

/-- `raise Fault(reason)` (R15, R33, R234), the only entry of this core: the fault mark is set and nothing else changes, PC still at
the opcode. There is no return (R235): nothing clears the mark, and a marked state has no step (R113). -/
def State.raise (s : State) (reason : Fault) : State := { s with faultMark := some reason }

end Sys2Proof.Machine
end

