-- ==== Sys2Proof/Machine/Flags.lean ====
section
/-! DEFINITION. The flag register (10_state.md R26 to R29), the branch conditions (44_control_flow.md R200), and every flag
computation of the spec, on unbounded naturals as its pseudocode has them. -/

namespace Sys2Proof.Machine

/-- The four flags, in the order the source lists them (R26). -/
inductive Flag
  | z | n | h | cy
  deriving DecidableEq, Repr

/-- The bit of F that holds a flag (R26): Z 7, N 6, H 5, CY 4. -/
def Flag.bit (fl : Flag) : Nat :=
  match fl with
  | .z => 7 | .n => 6 | .h => 5 | .cy => 4

/-- The byte with only that bit set. -/
def Flag.mask (fl : Flag) : Byte :=
  match fl with
  | .z => 0x80#8 | .n => 0x40#8 | .h => 0x20#8 | .cy => 0x10#8

/-- Test a flag (R29). -/
def State.flag (s : State) (fl : Flag) : Bool := s.f.getLsbD fl.bit

/-- Set or clear one flag: the other three and bits 3 to 0 are unchanged (R29). -/
def State.setFlag (s : State) (fl : Flag) (v : Bool) : State :=
  { s with f := if v then s.f ||| fl.mask else s.f &&& ~~~fl.mask }

/-- Write all four flags, one after the other. -/
def State.setFlags (s : State) (z n h cy : Bool) : State :=
  (((s.setFlag .z z).setFlag .n n).setFlag .h h).setFlag .cy cy

/-- `cond(cc)` (R200). -/
def State.cond (s : State) (cc : Cond) : Bool :=
  match cc with
  | .nz => !s.flag .z
  | .z => s.flag .z
  | .nc => !s.flag .cy
  | .c => s.flag .cy

/-- `(v == 0) ? 1 : 0`, the Z of a result (R28). -/
def isZero (v : Byte) : Bool := v == 0#8

/-- H of an addition: the low-nibble sum, carry-in included, exceeds 15 (R131, R132, D19). -/
def halfCarry (x y : Byte) (cin : Bool) : Bool := decide (x.toNat % 16 + y.toNat % 16 + cin.toNat > 0xF)

/-- CY of an addition: the unreduced sum exceeds 255 (R131, R132). -/
def carry (x y : Byte) (cin : Bool) : Bool := decide (x.toNat + y.toNat + cin.toNat > 0xFF)

/-- H of a subtraction: the low nibble is below the low nibble subtracted plus the carry-in (R133, R134, D18). -/
def halfBorrow (x y : Byte) (cin : Bool) : Bool := decide (x.toNat % 16 < y.toNat % 16 + cin.toNat)

/-- CY of a subtraction: the minuend is below the unreduced subtrahend (R133, R134, C1, D18). -/
def borrow (x y : Byte) (cin : Bool) : Bool := decide (x.toNat < y.toNat + cin.toNat)

/-- H of ADD HL,rr: carry out of bit 11 (R143). -/
def halfCarry16 (x y : Word) : Bool := decide (x.toNat % 4096 + y.toNat % 4096 > 0xFFF)

/-- CY of ADD HL,rr: carry out of bit 15 (R143). -/
def carry16 (x y : Word) : Bool := decide (x.toNat + y.toNat > 0xFFFF)

/-- The flag step of an 8-bit increment of `old` (R120, R122): Z always, N and H under `INCDEC8_FLAG_POLICY`. -/
def State.incFlags (s : State) (old : Byte) : State :=
  match s.cfg.incDec8Flags with
  | .zOnly => s.setFlag .z (isZero (old + 1#8))
  | .lr35902 => ((s.setFlag .z (isZero (old + 1#8))).setFlag .n false).setFlag .h (decide (old.toNat % 16 = 0xF))

/-- The flag step of an 8-bit decrement of `old` (R121, R123). -/
def State.decFlags (s : State) (old : Byte) : State :=
  match s.cfg.incDec8Flags with
  | .zOnly => s.setFlag .z (isZero (old - 1#8))
  | .lr35902 => ((s.setFlag .z (isZero (old - 1#8))).setFlag .n true).setFlag .h (decide (old.toNat % 16 = 0x0))

/-- The flag step of ADD SP,e8 and LD HL,SP+e8 (R144, R182): from the unsigned sum of SP's low byte and the byte `e`. -/
def State.offsetFlags (s : State) (sp : Word) (e : Byte) : State :=
  s.setFlags false false (halfCarry (loByte sp) e false) (carry (loByte sp) e false)

/-- `rota_flags()` (45_rotate.md): Z, N, H under `ROTA_FLAG_POLICY`. -/
def State.rotaFlags (s : State) : State :=
  match s.cfg.rotaFlags with
  | .preserve => s
  | .lr35902 => ((s.setFlag .z false).setFlag .n false).setFlag .h false

end Sys2Proof.Machine
end

