-- ==== Sys2Proof/Machine/Operands.lean ====
section
/-! DEFINITION. The operand forms: 8-bit sources (42_alu.md R130) and the memory operands of the accumulator moves
(43_load_store.md R165 to R178). -/

namespace Sys2Proof.Machine

/-- `operand(z)` of R130: a register, the byte at HL, or the immediate. -/
def State.readSrc (s : State) (src : Src8) : Byte :=
  match src with
  | .reg r => s.readReg r
  | .atHL => s.memRead s.hl
  | .imm v => v

/-- A high-page address `0xFF00 + n` (R88). -/
def highPage (n : Byte) : Word := joinBytes 0xFF#8 n

/-- The address of an accumulator move's memory operand. -/
def State.accAddress (s : State) (m : AccMem) : Word :=
  match m with
  | .atBC => s.bc
  | .atDE => s.de
  | .atHLInc => s.hl
  | .atHLDec => s.hl
  | .atHigh n => highPage n
  | .atHighC => highPage s.c
  | .atAbs a => a

/-- What an accumulator move does to HL after the transfer (R169 to R172): `(HL+)` adds 1, `(HL-)` subtracts 1, mod 2^16. -/
def State.accUpdate (s : State) (m : AccMem) : State :=
  match m with
  | .atHLInc => s.writeHL (s.hl + 1#16)
  | .atHLDec => s.writeHL (s.hl - 1#16)
  | .atBC => s
  | .atDE => s
  | .atHigh _ => s
  | .atHighC => s
  | .atAbs _ => s

/-- The vector `t * 8` of RST (R87, R211). -/
def rstAddress (t : RstVec) : Word := BitVec.ofNat 16 (8 * t.field)

end Sys2Proof.Machine
end

