-- ==== Sys2Proof/Machine/Alu.lean ====
section
/-! DEFINITION. The ALU group (42_alu.md R130 to R145). -/

namespace Sys2Proof.Machine

/-- A <- A + v + cin with its flags: ADD and ADC (R131, R132). -/
def State.aluAdd (s : State) (v : Byte) (cin : Bool) : State :=
  let res := BitVec.ofNat 8 (s.a.toNat + v.toNat + cin.toNat)
  ({ s with a := res }).setFlags (isZero res) false (halfCarry s.a v cin) (carry s.a v cin)

/-- `(a - dec) mod 2^8` with `dec = v + cin` unreduced (R133, R134, R138). -/
def subResult (a v : Byte) (cin : Bool) : Byte := a - BitVec.ofNat 8 (v.toNat + cin.toNat)

/-- The flags of A - (v + cin), A not written: CP, and the flags of SUB and SBC (R133, R134, R138). -/
def State.subFlags (s : State) (v : Byte) (cin : Bool) : State :=
  s.setFlags (isZero (subResult s.a v cin)) true (halfBorrow s.a v cin) (borrow s.a v cin)

/-- A <- A - (v + cin) with its flags: SUB and SBC (R133, R134). -/
def State.aluSub (s : State) (v : Byte) (cin : Bool) : State :=
  { s.subFlags v cin with a := subResult s.a v cin }

/-- A <- res with the flags of a bitwise operation: N and CY cleared, H as given (R135 to R137). -/
def State.aluLogic (s : State) (res : Byte) (h : Bool) : State :=
  ({ s with a := res }).setFlags (isZero res) false h false

/-- `alu8(op, v)` (R130): the routine every operand form of an operation goes through. -/
def State.alu8 (s : State) (op : AluOp) (v : Byte) : State :=
  match op with
  | .add => s.aluAdd v false
  | .adc => s.aluAdd v (s.flag .cy)
  | .sub => s.aluSub v false
  | .sbc => s.aluSub v (s.flag .cy)
  | .and => s.aluLogic (s.a &&& v) true
  | .xor => s.aluLogic (s.a ^^^ v) false
  | .or => s.aluLogic (s.a ||| v) false
  | .cp => s.subFlags v false

/-- An 8-bit ALU instruction: its operand is read before A is written (R130). -/
def State.alu (s : State) (op : AluOp) (src : Src8) : State := s.alu8 op (s.readSrc src)

/-- CPL (R140): Z and CY kept. -/
def State.cpl (s : State) : State := ((({ s with a := ~~~s.a }).setFlag .n true).setFlag .h true)

/-- SCF (R141): Z kept. -/
def State.scf (s : State) : State := ((s.setFlag .cy true).setFlag .n false).setFlag .h false

/-- CCF (R142): Z kept. -/
def State.ccf (s : State) : State := ((s.setFlag .cy (!s.flag .cy)).setFlag .n false).setFlag .h false

/-- ADD HL,rr (R143): Z kept. -/
def State.addHL (s : State) (p : Pair) : State :=
  (((s.writeHL (s.hl + s.readPair p)).setFlag .n false).setFlag .h (halfCarry16 s.hl (s.readPair p))).setFlag .cy
    (carry16 s.hl (s.readPair p))

/-- ADD SP,e8 (R144). -/
def State.addSP (s : State) (e : Byte) : State := ({ s with sp := s.sp + sext16 e }).offsetFlags s.sp e

/-- Whether DAA adjusts the low digit, under `DAA_POLICY = lr35902` (R145). -/
def daaLow (a : Byte) (n h : Bool) : Bool := h || (!n && decide (a.toNat % 16 > 0x9))

/-- Whether DAA adjusts the high digit (R145). -/
def daaHigh (a : Byte) (n cy : Bool) : Bool := cy || (!n && decide (a.toNat > 0x99))

/-- `adj` of R145. -/
def daaAdjust (a : Byte) (n h cy : Bool) : Byte :=
  (if daaLow a n h then 0x06#8 else 0x00#8) + (if daaHigh a n cy then 0x60#8 else 0x00#8)

/-- The result of R145: subtract after a subtraction, add otherwise. -/
def daaResult (a : Byte) (n h cy : Bool) : Byte := if n then a - daaAdjust a n h cy else a + daaAdjust a n h cy

/-- The `lr35902` branch of R145: N kept; after a subtraction CY kept too, which `daaHigh` then is. -/
def State.decimalAdjust (s : State) : State :=
  let res := daaResult s.a (s.flag .n) (s.flag .h) (s.flag .cy)
  ((({ s with a := res }).setFlag .z (isZero res)).setFlag .h false).setFlag .cy (daaHigh s.a (s.flag .n) (s.flag .cy))

/-- DAA (R145) under `DAA_POLICY`. -/
def State.daa (s : State) : State :=
  match s.cfg.daa with
  | .nop => s.advance 1
  | .lr35902 => (s.advance 1).decimalAdjust
  | .fault => s.raise (.unimplementedOpcode 0x27#8)

/-! ### One meaning per instruction -/

/-- `ADD HL,BC` (R143). -/
def execAddHLBC (s : State) : Result := .next ((s.advance 1).addHL .bc)

/-- `ADD HL,DE` (R143). -/
def execAddHLDE (s : State) : Result := .next ((s.advance 1).addHL .de)

/-- `DAA` (R145). -/
def execDaa (s : State) : Result := .next s.daa

/-- `ADD HL,HL` (R143). -/
def execAddHLHL (s : State) : Result := .next ((s.advance 1).addHL .hl)

/-- `CPL` (R140). -/
def execCpl (s : State) : Result := .next (s.advance 1).cpl

/-- `SCF` (R141). -/
def execScf (s : State) : Result := .next (s.advance 1).scf

/-- `ADD HL,SP` (R143). -/
def execAddHLSP (s : State) : Result := .next ((s.advance 1).addHL .sp)

/-- `CCF` (R142). -/
def execCcf (s : State) : Result := .next (s.advance 1).ccf

/-- `ADD A,B` (R131). -/
def execAddAB (s : State) : Result := .next ((s.advance 1).alu .add (.reg .b))

/-- `ADD A,C` (R131). -/
def execAddAC (s : State) : Result := .next ((s.advance 1).alu .add (.reg .c))

/-- `ADD A,D` (R131). -/
def execAddAD (s : State) : Result := .next ((s.advance 1).alu .add (.reg .d))

/-- `ADD A,E` (R131). -/
def execAddAE (s : State) : Result := .next ((s.advance 1).alu .add (.reg .e))

/-- `ADD A,H` (R131). -/
def execAddAH (s : State) : Result := .next ((s.advance 1).alu .add (.reg .h))

/-- `ADD A,L` (R131). -/
def execAddAL (s : State) : Result := .next ((s.advance 1).alu .add (.reg .l))

/-- `ADD A,(HL)` (R131). -/
def execAddAAtHL (s : State) : Result := .next ((s.advance 1).alu .add .atHL)

/-- `ADD A,A` (R131). -/
def execAddAA (s : State) : Result := .next ((s.advance 1).alu .add (.reg .a))

/-- `ADC A,B` (R132). -/
def execAdcAB (s : State) : Result := .next ((s.advance 1).alu .adc (.reg .b))

/-- `ADC A,C` (R132). -/
def execAdcAC (s : State) : Result := .next ((s.advance 1).alu .adc (.reg .c))

/-- `ADC A,D` (R132). -/
def execAdcAD (s : State) : Result := .next ((s.advance 1).alu .adc (.reg .d))

/-- `ADC A,E` (R132). -/
def execAdcAE (s : State) : Result := .next ((s.advance 1).alu .adc (.reg .e))

/-- `ADC A,H` (R132). -/
def execAdcAH (s : State) : Result := .next ((s.advance 1).alu .adc (.reg .h))

/-- `ADC A,L` (R132). -/
def execAdcAL (s : State) : Result := .next ((s.advance 1).alu .adc (.reg .l))

/-- `ADC A,(HL)` (R132). -/
def execAdcAAtHL (s : State) : Result := .next ((s.advance 1).alu .adc .atHL)

/-- `ADC A,A` (R132). -/
def execAdcAA (s : State) : Result := .next ((s.advance 1).alu .adc (.reg .a))

/-- `SUB B` (R133). -/
def execSubB (s : State) : Result := .next ((s.advance 1).alu .sub (.reg .b))

/-- `SUB C` (R133). -/
def execSubC (s : State) : Result := .next ((s.advance 1).alu .sub (.reg .c))

/-- `SUB D` (R133). -/
def execSubD (s : State) : Result := .next ((s.advance 1).alu .sub (.reg .d))

/-- `SUB E` (R133). -/
def execSubE (s : State) : Result := .next ((s.advance 1).alu .sub (.reg .e))

/-- `SUB H` (R133). -/
def execSubH (s : State) : Result := .next ((s.advance 1).alu .sub (.reg .h))

/-- `SUB L` (R133). -/
def execSubL (s : State) : Result := .next ((s.advance 1).alu .sub (.reg .l))

/-- `SUB (HL)` (R133). -/
def execSubAtHL (s : State) : Result := .next ((s.advance 1).alu .sub .atHL)

/-- `SUB A` (R133). -/
def execSubA (s : State) : Result := .next ((s.advance 1).alu .sub (.reg .a))

/-- `SBC A,B` (R134). -/
def execSbcAB (s : State) : Result := .next ((s.advance 1).alu .sbc (.reg .b))

/-- `SBC A,C` (R134). -/
def execSbcAC (s : State) : Result := .next ((s.advance 1).alu .sbc (.reg .c))

/-- `SBC A,D` (R134). -/
def execSbcAD (s : State) : Result := .next ((s.advance 1).alu .sbc (.reg .d))

/-- `SBC A,E` (R134). -/
def execSbcAE (s : State) : Result := .next ((s.advance 1).alu .sbc (.reg .e))

/-- `SBC A,H` (R134). -/
def execSbcAH (s : State) : Result := .next ((s.advance 1).alu .sbc (.reg .h))

/-- `SBC A,L` (R134). -/
def execSbcAL (s : State) : Result := .next ((s.advance 1).alu .sbc (.reg .l))

/-- `SBC A,(HL)` (R134). -/
def execSbcAAtHL (s : State) : Result := .next ((s.advance 1).alu .sbc .atHL)

/-- `SBC A,A` (R134). -/
def execSbcAA (s : State) : Result := .next ((s.advance 1).alu .sbc (.reg .a))

/-- `AND B` (R135). -/
def execAndB (s : State) : Result := .next ((s.advance 1).alu .and (.reg .b))

/-- `AND C` (R135). -/
def execAndC (s : State) : Result := .next ((s.advance 1).alu .and (.reg .c))

/-- `AND D` (R135). -/
def execAndD (s : State) : Result := .next ((s.advance 1).alu .and (.reg .d))

/-- `AND E` (R135). -/
def execAndE (s : State) : Result := .next ((s.advance 1).alu .and (.reg .e))

/-- `AND H` (R135). -/
def execAndH (s : State) : Result := .next ((s.advance 1).alu .and (.reg .h))

/-- `AND L` (R135). -/
def execAndL (s : State) : Result := .next ((s.advance 1).alu .and (.reg .l))

/-- `AND (HL)` (R135). -/
def execAndAtHL (s : State) : Result := .next ((s.advance 1).alu .and .atHL)

/-- `AND A` (R135). -/
def execAndA (s : State) : Result := .next ((s.advance 1).alu .and (.reg .a))

/-- `XOR B` (R136). -/
def execXorB (s : State) : Result := .next ((s.advance 1).alu .xor (.reg .b))

/-- `XOR C` (R136). -/
def execXorC (s : State) : Result := .next ((s.advance 1).alu .xor (.reg .c))

/-- `XOR D` (R136). -/
def execXorD (s : State) : Result := .next ((s.advance 1).alu .xor (.reg .d))

/-- `XOR E` (R136). -/
def execXorE (s : State) : Result := .next ((s.advance 1).alu .xor (.reg .e))

/-- `XOR H` (R136). -/
def execXorH (s : State) : Result := .next ((s.advance 1).alu .xor (.reg .h))

/-- `XOR L` (R136). -/
def execXorL (s : State) : Result := .next ((s.advance 1).alu .xor (.reg .l))

/-- `XOR (HL)` (R136). -/
def execXorAtHL (s : State) : Result := .next ((s.advance 1).alu .xor .atHL)

/-- `XOR A` (R136). -/
def execXorA (s : State) : Result := .next ((s.advance 1).alu .xor (.reg .a))

/-- `OR B` (R137). -/
def execOrB (s : State) : Result := .next ((s.advance 1).alu .or (.reg .b))

/-- `OR C` (R137). -/
def execOrC (s : State) : Result := .next ((s.advance 1).alu .or (.reg .c))

/-- `OR D` (R137). -/
def execOrD (s : State) : Result := .next ((s.advance 1).alu .or (.reg .d))

/-- `OR E` (R137). -/
def execOrE (s : State) : Result := .next ((s.advance 1).alu .or (.reg .e))

/-- `OR H` (R137). -/
def execOrH (s : State) : Result := .next ((s.advance 1).alu .or (.reg .h))

/-- `OR L` (R137). -/
def execOrL (s : State) : Result := .next ((s.advance 1).alu .or (.reg .l))

/-- `OR (HL)` (R137). -/
def execOrAtHL (s : State) : Result := .next ((s.advance 1).alu .or .atHL)

/-- `OR A` (R137). -/
def execOrA (s : State) : Result := .next ((s.advance 1).alu .or (.reg .a))

/-- `CP B` (R138). -/
def execCpB (s : State) : Result := .next ((s.advance 1).alu .cp (.reg .b))

/-- `CP C` (R138). -/
def execCpC (s : State) : Result := .next ((s.advance 1).alu .cp (.reg .c))

/-- `CP D` (R138). -/
def execCpD (s : State) : Result := .next ((s.advance 1).alu .cp (.reg .d))

/-- `CP E` (R138). -/
def execCpE (s : State) : Result := .next ((s.advance 1).alu .cp (.reg .e))

/-- `CP H` (R138). -/
def execCpH (s : State) : Result := .next ((s.advance 1).alu .cp (.reg .h))

/-- `CP L` (R138). -/
def execCpL (s : State) : Result := .next ((s.advance 1).alu .cp (.reg .l))

/-- `CP (HL)` (R138). -/
def execCpAtHL (s : State) : Result := .next ((s.advance 1).alu .cp .atHL)

/-- `CP A` (R138). -/
def execCpA (s : State) : Result := .next ((s.advance 1).alu .cp (.reg .a))

/-- `ADD A,d8` (R131). -/
def execAddAD8 (v : Byte) (s : State) : Result := .next ((s.advance 2).alu .add (.imm v))

/-- `ADC A,d8` (R132). -/
def execAdcAD8 (v : Byte) (s : State) : Result := .next ((s.advance 2).alu .adc (.imm v))

/-- `SUB d8` (R133). -/
def execSubD8 (v : Byte) (s : State) : Result := .next ((s.advance 2).alu .sub (.imm v))

/-- `SBC A,d8` (R134). -/
def execSbcAD8 (v : Byte) (s : State) : Result := .next ((s.advance 2).alu .sbc (.imm v))

/-- `AND d8` (R135). -/
def execAndD8 (v : Byte) (s : State) : Result := .next ((s.advance 2).alu .and (.imm v))

/-- `ADD SP,e8` (R144). -/
def execAddSPE8 (e : Byte) (s : State) : Result := .next ((s.advance 2).addSP e)

/-- `XOR d8` (R136). -/
def execXorD8 (v : Byte) (s : State) : Result := .next ((s.advance 2).alu .xor (.imm v))

/-- `OR d8` (R137). -/
def execOrD8 (v : Byte) (s : State) : Result := .next ((s.advance 2).alu .or (.imm v))

/-- `CP d8` (R138). -/
def execCpD8 (v : Byte) (s : State) : Result := .next ((s.advance 2).alu .cp (.imm v))

end Sys2Proof.Machine
end

