-- ==== Sys2Proof/Machine/ControlFlow.lean ====
section
/-! DEFINITION. The control-flow group (44_control_flow.md R201 to R211). In every operation PC already is past the whole
instruction. -/

namespace Sys2Proof.Machine

/-- JR e8 (R201). -/
def State.jumpRelative (s : State) (e : Byte) : State := s.jump (s.pc + sext16 e)

/-- JR cc,e8 (R202). -/
def State.jumpRelativeIf (s : State) (cc : Cond) (e : Byte) : State := if s.cond cc then s.jumpRelative e else s

/-- JP cc,a16 (R204). -/
def State.jumpIf (s : State) (cc : Cond) (a : Word) : State := if s.cond cc then s.jump a else s

/-- JP HL (R205): no memory read. -/
def State.jpHL (s : State) : State := s.jump s.hl

/-- CALL a16 (R206), and RST at its vector (R211): push the address after the instruction, then jump. -/
def State.call (s : State) (a : Word) : State := (s.push16 s.pc).jump a

/-- CALL cc,a16 (R207). -/
def State.callIf (s : State) (cc : Cond) (a : Word) : State := if s.cond cc then s.call a else s

/-- RET (R208). -/
def State.ret (s : State) : State := s.popped.jump s.popValue

/-- RET cc (R209). -/
def State.retIf (s : State) (cc : Cond) : State := if s.cond cc then s.ret else s

/-- RETI (R210) under `RETI_POLICY`; there is no interrupt-enable state to set. -/
def State.reti (s : State) : State :=
  match s.cfg.reti with
  | .nop => s
  | .ret => s.ret

/-- RST t (R211). -/
def State.rst (s : State) (t : RstVec) : State := s.call (rstAddress t)

/-! ### One meaning per instruction -/

/-- `JR e8` (R201). -/
def execJrE8 (e : Byte) (s : State) : Result := .next ((s.advance 2).jumpRelative e)

/-- `JR NZ,e8` (R202). -/
def execJrNZE8 (e : Byte) (s : State) : Result := .next ((s.advance 2).jumpRelativeIf .nz e)

/-- `JR Z,e8` (R202). -/
def execJrZE8 (e : Byte) (s : State) : Result := .next ((s.advance 2).jumpRelativeIf .z e)

/-- `JR NC,e8` (R202). -/
def execJrNCE8 (e : Byte) (s : State) : Result := .next ((s.advance 2).jumpRelativeIf .nc e)

/-- `JR C,e8` (R202). -/
def execJrCE8 (e : Byte) (s : State) : Result := .next ((s.advance 2).jumpRelativeIf .c e)

/-- `RET NZ` (R209). -/
def execRetNZ (s : State) : Result := .next ((s.advance 1).retIf .nz)

/-- `JP NZ,a16` (R204). -/
def execJpNZA16 (a : Word) (s : State) : Result := .next ((s.advance 3).jumpIf .nz a)

/-- `JP a16` (R203). -/
def execJpA16 (a : Word) (s : State) : Result := .next ((s.advance 3).jump a)

/-- `CALL NZ,a16` (R207). -/
def execCallNZA16 (a : Word) (s : State) : Result := .next ((s.advance 3).callIf .nz a)

/-- `RST 00H` (R211). -/
def execRst00 (s : State) : Result := .next ((s.advance 1).rst .v00)

/-- `RET Z` (R209). -/
def execRetZ (s : State) : Result := .next ((s.advance 1).retIf .z)

/-- `RET` (R208). -/
def execRet (s : State) : Result := .next (s.advance 1).ret

/-- `JP Z,a16` (R204). -/
def execJpZA16 (a : Word) (s : State) : Result := .next ((s.advance 3).jumpIf .z a)

/-- `CALL Z,a16` (R207). -/
def execCallZA16 (a : Word) (s : State) : Result := .next ((s.advance 3).callIf .z a)

/-- `CALL a16` (R206). -/
def execCallA16 (a : Word) (s : State) : Result := .next ((s.advance 3).call a)

/-- `RST 08H` (R211). -/
def execRst08 (s : State) : Result := .next ((s.advance 1).rst .v08)

/-- `RET NC` (R209). -/
def execRetNC (s : State) : Result := .next ((s.advance 1).retIf .nc)

/-- `JP NC,a16` (R204). -/
def execJpNCA16 (a : Word) (s : State) : Result := .next ((s.advance 3).jumpIf .nc a)

/-- `CALL NC,a16` (R207). -/
def execCallNCA16 (a : Word) (s : State) : Result := .next ((s.advance 3).callIf .nc a)

/-- `RST 10H` (R211). -/
def execRst10 (s : State) : Result := .next ((s.advance 1).rst .v10)

/-- `RET C` (R209). -/
def execRetC (s : State) : Result := .next ((s.advance 1).retIf .c)

/-- `RETI` (R210). -/
def execReti (s : State) : Result := .next (s.advance 1).reti

/-- `JP C,a16` (R204). -/
def execJpCA16 (a : Word) (s : State) : Result := .next ((s.advance 3).jumpIf .c a)

/-- `CALL C,a16` (R207). -/
def execCallCA16 (a : Word) (s : State) : Result := .next ((s.advance 3).callIf .c a)

/-- `RST 18H` (R211). -/
def execRst18 (s : State) : Result := .next ((s.advance 1).rst .v18)

/-- `RST 20H` (R211). -/
def execRst20 (s : State) : Result := .next ((s.advance 1).rst .v20)

/-- `JP HL` (R205). -/
def execJpHL (s : State) : Result := .next (s.advance 1).jpHL

/-- `RST 28H` (R211). -/
def execRst28 (s : State) : Result := .next ((s.advance 1).rst .v28)

/-- `RST 30H` (R211). -/
def execRst30 (s : State) : Result := .next ((s.advance 1).rst .v30)

/-- `RST 38H` (R211). -/
def execRst38 (s : State) : Result := .next ((s.advance 1).rst .v38)

end Sys2Proof.Machine
end

