-- ==== Sys2Proof/Machine/IncDec.lean ====
section
/-! DEFINITION. Increment and decrement (41_inc_dec.md R120 to R125). -/

namespace Sys2Proof.Machine

/-- INC r (R120). -/
def State.incReg (s : State) (r : Reg8) : State := (s.writeReg r (s.readReg r + 1#8)).incFlags (s.readReg r)

/-- DEC r (R121). -/
def State.decReg (s : State) (r : Reg8) : State := (s.writeReg r (s.readReg r - 1#8)).decFlags (s.readReg r)

/-- INC (HL) (R122): at 0xFF01 the result goes to the sink. -/
def State.incAtHL (s : State) : State := (s.memWrite s.hl (s.memRead s.hl + 1#8)).incFlags (s.memRead s.hl)

/-- DEC (HL) (R123). -/
def State.decAtHL (s : State) : State := (s.memWrite s.hl (s.memRead s.hl - 1#8)).decFlags (s.memRead s.hl)

/-- INC rr (R124): no flag. -/
def State.incPair (s : State) (p : Pair) : State := s.writePair p (s.readPair p + 1#16)

/-- DEC rr (R125): no flag. -/
def State.decPair (s : State) (p : Pair) : State := s.writePair p (s.readPair p - 1#16)

/-! ### One meaning per instruction -/

/-- `INC BC` (R124). -/
def execIncBC (s : State) : Result := .next ((s.advance 1).incPair .bc)

/-- `INC B` (R120). -/
def execIncB (s : State) : Result := .next ((s.advance 1).incReg .b)

/-- `DEC B` (R121). -/
def execDecB (s : State) : Result := .next ((s.advance 1).decReg .b)

/-- `DEC BC` (R125). -/
def execDecBC (s : State) : Result := .next ((s.advance 1).decPair .bc)

/-- `INC C` (R120). -/
def execIncC (s : State) : Result := .next ((s.advance 1).incReg .c)

/-- `DEC C` (R121). -/
def execDecC (s : State) : Result := .next ((s.advance 1).decReg .c)

/-- `INC DE` (R124). -/
def execIncDE (s : State) : Result := .next ((s.advance 1).incPair .de)

/-- `INC D` (R120). -/
def execIncD (s : State) : Result := .next ((s.advance 1).incReg .d)

/-- `DEC D` (R121). -/
def execDecD (s : State) : Result := .next ((s.advance 1).decReg .d)

/-- `DEC DE` (R125). -/
def execDecDE (s : State) : Result := .next ((s.advance 1).decPair .de)

/-- `INC E` (R120). -/
def execIncE (s : State) : Result := .next ((s.advance 1).incReg .e)

/-- `DEC E` (R121). -/
def execDecE (s : State) : Result := .next ((s.advance 1).decReg .e)

/-- `INC HL` (R124). -/
def execIncHL (s : State) : Result := .next ((s.advance 1).incPair .hl)

/-- `INC H` (R120). -/
def execIncH (s : State) : Result := .next ((s.advance 1).incReg .h)

/-- `DEC H` (R121). -/
def execDecH (s : State) : Result := .next ((s.advance 1).decReg .h)

/-- `DEC HL` (R125). -/
def execDecHL (s : State) : Result := .next ((s.advance 1).decPair .hl)

/-- `INC L` (R120). -/
def execIncL (s : State) : Result := .next ((s.advance 1).incReg .l)

/-- `DEC L` (R121). -/
def execDecL (s : State) : Result := .next ((s.advance 1).decReg .l)

/-- `INC SP` (R124). -/
def execIncSP (s : State) : Result := .next ((s.advance 1).incPair .sp)

/-- `INC (HL)` (R122). -/
def execIncAtHL (s : State) : Result := .next (s.advance 1).incAtHL

/-- `DEC (HL)` (R123). -/
def execDecAtHL (s : State) : Result := .next (s.advance 1).decAtHL

/-- `DEC SP` (R125). -/
def execDecSP (s : State) : Result := .next ((s.advance 1).decPair .sp)

/-- `INC A` (R120). -/
def execIncA (s : State) : Result := .next ((s.advance 1).incReg .a)

/-- `DEC A` (R121). -/
def execDecA (s : State) : Result := .next ((s.advance 1).decReg .a)

end Sys2Proof.Machine
end

