-- ==== Sys2Proof/Machine/LoadStore.lean ====
section
/-! DEFINITION. The load/store group (43_load_store.md R160 to R186). -/

namespace Sys2Proof.Machine

/-- LD r,r', LD r,(HL), LD r,d8 (R160, R161, R163). -/
def State.loadReg (s : State) (r : Reg8) (src : Src8) : State := s.writeReg r (s.readSrc src)

/-- LD (HL),r and LD (HL),d8 (R162, R164). -/
def State.storeHL (s : State) (src : Src8) : State := s.memWrite s.hl (s.readSrc src)

/-- The accumulator stores (R165, R166, R169, R170, R173, R175, R177): the byte, then the update of HL. -/
def State.storeA (s : State) (m : AccMem) : State := (s.memWrite (s.accAddress m) s.a).accUpdate m

/-- The accumulator loads (R167, R168, R171, R172, R174, R176, R178): the byte, then the update of HL. -/
def State.loadA (s : State) (m : AccMem) : State := ({ s with a := s.memRead (s.accAddress m) }).accUpdate m

/-- LD (a16),SP (R180): low byte at `a`, then high byte at `a + 1`. -/
def State.storeSP (s : State) (a : Word) : State := (s.memWrite a (loByte s.sp)).memWrite (a + 1#16) (hiByte s.sp)

/-- LD SP,HL (R181). -/
def State.ldSPHL (s : State) : State := { s with sp := s.hl }

/-- LD HL,SP+e8 (R182): SP unchanged. -/
def State.ldHLSP (s : State) (e : Byte) : State := (s.writeHL (s.sp + sext16 e)).offsetFlags s.sp e

/-- PUSH qq (R185). -/
def State.push (s : State) (q : StackPair) : State := s.push16 (s.readStackPair q)

/-- POP qq (R186). -/
def State.pop (s : State) (q : StackPair) : State := s.popped.writeStackPair q s.popValue

/-! ### One meaning per instruction -/

/-- `LD BC,d16` (R179). -/
def execLdBCD16 (v : Word) (s : State) : Result := .next ((s.advance 3).writePair .bc v)

/-- `LD (BC),A` (R165). -/
def execLdAtBCA (s : State) : Result := .next ((s.advance 1).storeA .atBC)

/-- `LD B,d8` (R163). -/
def execLdBD8 (v : Byte) (s : State) : Result := .next ((s.advance 2).loadReg .b (.imm v))

/-- `LD (a16),SP` (R180). -/
def execLdAtA16SP (a : Word) (s : State) : Result := .next ((s.advance 3).storeSP a)

/-- `LD A,(BC)` (R167). -/
def execLdAAtBC (s : State) : Result := .next ((s.advance 1).loadA .atBC)

/-- `LD C,d8` (R163). -/
def execLdCD8 (v : Byte) (s : State) : Result := .next ((s.advance 2).loadReg .c (.imm v))

/-- `LD DE,d16` (R179). -/
def execLdDED16 (v : Word) (s : State) : Result := .next ((s.advance 3).writePair .de v)

/-- `LD (DE),A` (R166). -/
def execLdAtDEA (s : State) : Result := .next ((s.advance 1).storeA .atDE)

/-- `LD D,d8` (R163). -/
def execLdDD8 (v : Byte) (s : State) : Result := .next ((s.advance 2).loadReg .d (.imm v))

/-- `LD A,(DE)` (R168). -/
def execLdAAtDE (s : State) : Result := .next ((s.advance 1).loadA .atDE)

/-- `LD E,d8` (R163). -/
def execLdED8 (v : Byte) (s : State) : Result := .next ((s.advance 2).loadReg .e (.imm v))

/-- `LD HL,d16` (R179). -/
def execLdHLD16 (v : Word) (s : State) : Result := .next ((s.advance 3).writePair .hl v)

/-- `LD (HL+),A` (R169). -/
def execLdAtHLIncA (s : State) : Result := .next ((s.advance 1).storeA .atHLInc)

/-- `LD H,d8` (R163). -/
def execLdHD8 (v : Byte) (s : State) : Result := .next ((s.advance 2).loadReg .h (.imm v))

/-- `LD A,(HL+)` (R171). -/
def execLdAAtHLInc (s : State) : Result := .next ((s.advance 1).loadA .atHLInc)

/-- `LD L,d8` (R163). -/
def execLdLD8 (v : Byte) (s : State) : Result := .next ((s.advance 2).loadReg .l (.imm v))

/-- `LD SP,d16` (R179). -/
def execLdSPD16 (v : Word) (s : State) : Result := .next ((s.advance 3).writePair .sp v)

/-- `LD (HL-),A` (R170). -/
def execLdAtHLDecA (s : State) : Result := .next ((s.advance 1).storeA .atHLDec)

/-- `LD (HL),d8` (R164). -/
def execLdAtHLD8 (v : Byte) (s : State) : Result := .next ((s.advance 2).storeHL (.imm v))

/-- `LD A,(HL-)` (R172). -/
def execLdAAtHLDec (s : State) : Result := .next ((s.advance 1).loadA .atHLDec)

/-- `LD A,d8` (R163). -/
def execLdAD8 (v : Byte) (s : State) : Result := .next ((s.advance 2).loadReg .a (.imm v))

/-- `LD B,B` (R160). -/
def execLdBB (s : State) : Result := .next ((s.advance 1).loadReg .b (.reg .b))

/-- `LD B,C` (R160). -/
def execLdBC (s : State) : Result := .next ((s.advance 1).loadReg .b (.reg .c))

/-- `LD B,D` (R160). -/
def execLdBD (s : State) : Result := .next ((s.advance 1).loadReg .b (.reg .d))

/-- `LD B,E` (R160). -/
def execLdBE (s : State) : Result := .next ((s.advance 1).loadReg .b (.reg .e))

/-- `LD B,H` (R160). -/
def execLdBH (s : State) : Result := .next ((s.advance 1).loadReg .b (.reg .h))

/-- `LD B,L` (R160). -/
def execLdBL (s : State) : Result := .next ((s.advance 1).loadReg .b (.reg .l))

/-- `LD B,(HL)` (R161). -/
def execLdBAtHL (s : State) : Result := .next ((s.advance 1).loadReg .b .atHL)

/-- `LD B,A` (R160). -/
def execLdBA (s : State) : Result := .next ((s.advance 1).loadReg .b (.reg .a))

/-- `LD C,B` (R160). -/
def execLdCB (s : State) : Result := .next ((s.advance 1).loadReg .c (.reg .b))

/-- `LD C,C` (R160). -/
def execLdCC (s : State) : Result := .next ((s.advance 1).loadReg .c (.reg .c))

/-- `LD C,D` (R160). -/
def execLdCD (s : State) : Result := .next ((s.advance 1).loadReg .c (.reg .d))

/-- `LD C,E` (R160). -/
def execLdCE (s : State) : Result := .next ((s.advance 1).loadReg .c (.reg .e))

/-- `LD C,H` (R160). -/
def execLdCH (s : State) : Result := .next ((s.advance 1).loadReg .c (.reg .h))

/-- `LD C,L` (R160). -/
def execLdCL (s : State) : Result := .next ((s.advance 1).loadReg .c (.reg .l))

/-- `LD C,(HL)` (R161). -/
def execLdCAtHL (s : State) : Result := .next ((s.advance 1).loadReg .c .atHL)

/-- `LD C,A` (R160). -/
def execLdCA (s : State) : Result := .next ((s.advance 1).loadReg .c (.reg .a))

/-- `LD D,B` (R160). -/
def execLdDB (s : State) : Result := .next ((s.advance 1).loadReg .d (.reg .b))

/-- `LD D,C` (R160). -/
def execLdDC (s : State) : Result := .next ((s.advance 1).loadReg .d (.reg .c))

/-- `LD D,D` (R160). -/
def execLdDD (s : State) : Result := .next ((s.advance 1).loadReg .d (.reg .d))

/-- `LD D,E` (R160). -/
def execLdDE (s : State) : Result := .next ((s.advance 1).loadReg .d (.reg .e))

/-- `LD D,H` (R160). -/
def execLdDH (s : State) : Result := .next ((s.advance 1).loadReg .d (.reg .h))

/-- `LD D,L` (R160). -/
def execLdDL (s : State) : Result := .next ((s.advance 1).loadReg .d (.reg .l))

/-- `LD D,(HL)` (R161). -/
def execLdDAtHL (s : State) : Result := .next ((s.advance 1).loadReg .d .atHL)

/-- `LD D,A` (R160). -/
def execLdDA (s : State) : Result := .next ((s.advance 1).loadReg .d (.reg .a))

/-- `LD E,B` (R160). -/
def execLdEB (s : State) : Result := .next ((s.advance 1).loadReg .e (.reg .b))

/-- `LD E,C` (R160). -/
def execLdEC (s : State) : Result := .next ((s.advance 1).loadReg .e (.reg .c))

/-- `LD E,D` (R160). -/
def execLdED (s : State) : Result := .next ((s.advance 1).loadReg .e (.reg .d))

/-- `LD E,E` (R160). -/
def execLdEE (s : State) : Result := .next ((s.advance 1).loadReg .e (.reg .e))

/-- `LD E,H` (R160). -/
def execLdEH (s : State) : Result := .next ((s.advance 1).loadReg .e (.reg .h))

/-- `LD E,L` (R160). -/
def execLdEL (s : State) : Result := .next ((s.advance 1).loadReg .e (.reg .l))

/-- `LD E,(HL)` (R161). -/
def execLdEAtHL (s : State) : Result := .next ((s.advance 1).loadReg .e .atHL)

/-- `LD E,A` (R160). -/
def execLdEA (s : State) : Result := .next ((s.advance 1).loadReg .e (.reg .a))

/-- `LD H,B` (R160). -/
def execLdHB (s : State) : Result := .next ((s.advance 1).loadReg .h (.reg .b))

/-- `LD H,C` (R160). -/
def execLdHC (s : State) : Result := .next ((s.advance 1).loadReg .h (.reg .c))

/-- `LD H,D` (R160). -/
def execLdHD (s : State) : Result := .next ((s.advance 1).loadReg .h (.reg .d))

/-- `LD H,E` (R160). -/
def execLdHE (s : State) : Result := .next ((s.advance 1).loadReg .h (.reg .e))

/-- `LD H,H` (R160). -/
def execLdHH (s : State) : Result := .next ((s.advance 1).loadReg .h (.reg .h))

/-- `LD H,L` (R160). -/
def execLdHL (s : State) : Result := .next ((s.advance 1).loadReg .h (.reg .l))

/-- `LD H,(HL)` (R161). -/
def execLdHAtHL (s : State) : Result := .next ((s.advance 1).loadReg .h .atHL)

/-- `LD H,A` (R160). -/
def execLdHA (s : State) : Result := .next ((s.advance 1).loadReg .h (.reg .a))

/-- `LD L,B` (R160). -/
def execLdLB (s : State) : Result := .next ((s.advance 1).loadReg .l (.reg .b))

/-- `LD L,C` (R160). -/
def execLdLC (s : State) : Result := .next ((s.advance 1).loadReg .l (.reg .c))

/-- `LD L,D` (R160). -/
def execLdLD (s : State) : Result := .next ((s.advance 1).loadReg .l (.reg .d))

/-- `LD L,E` (R160). -/
def execLdLE (s : State) : Result := .next ((s.advance 1).loadReg .l (.reg .e))

/-- `LD L,H` (R160). -/
def execLdLH (s : State) : Result := .next ((s.advance 1).loadReg .l (.reg .h))

/-- `LD L,L` (R160). -/
def execLdLL (s : State) : Result := .next ((s.advance 1).loadReg .l (.reg .l))

/-- `LD L,(HL)` (R161). -/
def execLdLAtHL (s : State) : Result := .next ((s.advance 1).loadReg .l .atHL)

/-- `LD L,A` (R160). -/
def execLdLA (s : State) : Result := .next ((s.advance 1).loadReg .l (.reg .a))

/-- `LD (HL),B` (R162). -/
def execLdAtHLB (s : State) : Result := .next ((s.advance 1).storeHL (.reg .b))

/-- `LD (HL),C` (R162). -/
def execLdAtHLC (s : State) : Result := .next ((s.advance 1).storeHL (.reg .c))

/-- `LD (HL),D` (R162). -/
def execLdAtHLD (s : State) : Result := .next ((s.advance 1).storeHL (.reg .d))

/-- `LD (HL),E` (R162). -/
def execLdAtHLE (s : State) : Result := .next ((s.advance 1).storeHL (.reg .e))

/-- `LD (HL),H` (R162). -/
def execLdAtHLH (s : State) : Result := .next ((s.advance 1).storeHL (.reg .h))

/-- `LD (HL),L` (R162). -/
def execLdAtHLL (s : State) : Result := .next ((s.advance 1).storeHL (.reg .l))

/-- `LD (HL),A` (R162). -/
def execLdAtHLA (s : State) : Result := .next ((s.advance 1).storeHL (.reg .a))

/-- `LD A,B` (R160). -/
def execLdAB (s : State) : Result := .next ((s.advance 1).loadReg .a (.reg .b))

/-- `LD A,C` (R160). -/
def execLdAC (s : State) : Result := .next ((s.advance 1).loadReg .a (.reg .c))

/-- `LD A,D` (R160). -/
def execLdAD (s : State) : Result := .next ((s.advance 1).loadReg .a (.reg .d))

/-- `LD A,E` (R160). -/
def execLdAE (s : State) : Result := .next ((s.advance 1).loadReg .a (.reg .e))

/-- `LD A,H` (R160). -/
def execLdAH (s : State) : Result := .next ((s.advance 1).loadReg .a (.reg .h))

/-- `LD A,L` (R160). -/
def execLdAL (s : State) : Result := .next ((s.advance 1).loadReg .a (.reg .l))

/-- `LD A,(HL)` (R161). -/
def execLdAAtHL (s : State) : Result := .next ((s.advance 1).loadReg .a .atHL)

/-- `LD A,A` (R160). -/
def execLdAA (s : State) : Result := .next ((s.advance 1).loadReg .a (.reg .a))

/-- `POP BC` (R186). -/
def execPopBC (s : State) : Result := .next ((s.advance 1).pop .bc)

/-- `PUSH BC` (R185). -/
def execPushBC (s : State) : Result := .next ((s.advance 1).push .bc)

/-- `POP DE` (R186). -/
def execPopDE (s : State) : Result := .next ((s.advance 1).pop .de)

/-- `PUSH DE` (R185). -/
def execPushDE (s : State) : Result := .next ((s.advance 1).push .de)

/-- `LDH (a8),A` (R173). -/
def execLdhAtA8A (n : Byte) (s : State) : Result := .next ((s.advance 2).storeA (.atHigh n))

/-- `POP HL` (R186). -/
def execPopHL (s : State) : Result := .next ((s.advance 1).pop .hl)

/-- `LD (C),A` (R175). -/
def execLdAtCA (s : State) : Result := .next ((s.advance 1).storeA .atHighC)

/-- `PUSH HL` (R185). -/
def execPushHL (s : State) : Result := .next ((s.advance 1).push .hl)

/-- `LD (a16),A` (R177). -/
def execLdAtA16A (a : Word) (s : State) : Result := .next ((s.advance 3).storeA (.atAbs a))

/-- `LDH A,(a8)` (R174). -/
def execLdhAAtA8 (n : Byte) (s : State) : Result := .next ((s.advance 2).loadA (.atHigh n))

/-- `POP AF` (R186). -/
def execPopAF (s : State) : Result := .next ((s.advance 1).pop .af)

/-- `LD A,(C)` (R176). -/
def execLdAAtC (s : State) : Result := .next ((s.advance 1).loadA .atHighC)

/-- `PUSH AF` (R185). -/
def execPushAF (s : State) : Result := .next ((s.advance 1).push .af)

/-- `LD HL,SP+e8` (R182). -/
def execLdHLSPE8 (e : Byte) (s : State) : Result := .next ((s.advance 2).ldHLSP e)

/-- `LD SP,HL` (R181). -/
def execLdSPHL (s : State) : Result := .next (s.advance 1).ldSPHL

/-- `LD A,(a16)` (R178). -/
def execLdAAtA16 (a : Word) (s : State) : Result := .next ((s.advance 3).loadA (.atAbs a))

end Sys2Proof.Machine
end

