-- ==== Sys2Proof/Machine/NoHandler.lean ====
section
/-! DEFINITION. NOP and the opcodes the source gives no handler (40_dispatcher.md R105 to R111). -/

namespace Sys2Proof.Machine

/-- An opcode with no instruction (R106, R107): a one-byte no-op, or the model fault before PC moves. -/
def State.undefinedOp (s : State) (op : Byte) : State :=
  match s.cfg.undefOp with
  | .nop => s.advance 1
  | .fault => s.raise (.undefinedOpcode op)

/-- An opcode whose feature is a non-goal (R108 to R111): a one-byte no-op that enters no state, or the model fault. -/
def State.nongoalOp (s : State) (op : Byte) : State :=
  match s.cfg.nongoalOp with
  | .nop => s.advance 1
  | .fault => s.raise (.unimplementedOpcode op)

/-! ### One meaning per instruction -/

/-- `NOP` (R105). -/
def execNop (s : State) : Result := .next (s.advance 1)

/-- `STOP` (R108). -/
def execStop (s : State) : Result := .next (s.nongoalOp 0x10#8)

/-- `HALT` (R109). -/
def execHalt (s : State) : Result := .next (s.nongoalOp 0x76#8)

/-- `PREFIX CB` (R107). -/
def execPrefixCB (s : State) : Result := .next (s.undefinedOp 0xCB#8)

/-- `(gap 0xD3)` (R106). -/
def execGapD3 (s : State) : Result := .next (s.undefinedOp 0xD3#8)

/-- `(gap 0xDB)` (R106). -/
def execGapDB (s : State) : Result := .next (s.undefinedOp 0xDB#8)

/-- `(gap 0xDD)` (R106). -/
def execGapDD (s : State) : Result := .next (s.undefinedOp 0xDD#8)

/-- `(gap 0xE3)` (R106). -/
def execGapE3 (s : State) : Result := .next (s.undefinedOp 0xE3#8)

/-- `(gap 0xE4)` (R106). -/
def execGapE4 (s : State) : Result := .next (s.undefinedOp 0xE4#8)

/-- `(gap 0xEB)` (R106). -/
def execGapEB (s : State) : Result := .next (s.undefinedOp 0xEB#8)

/-- `(gap 0xEC)` (R106). -/
def execGapEC (s : State) : Result := .next (s.undefinedOp 0xEC#8)

/-- `(gap 0xED)` (R106). -/
def execGapED (s : State) : Result := .next (s.undefinedOp 0xED#8)

/-- `DI` (R110). -/
def execDi (s : State) : Result := .next (s.nongoalOp 0xF3#8)

/-- `(gap 0xF4)` (R106). -/
def execGapF4 (s : State) : Result := .next (s.undefinedOp 0xF4#8)

/-- `EI` (R111). -/
def execEi (s : State) : Result := .next (s.nongoalOp 0xFB#8)

/-- `(gap 0xFC)` (R106). -/
def execGapFC (s : State) : Result := .next (s.undefinedOp 0xFC#8)

/-- `(gap 0xFD)` (R106). -/
def execGapFD (s : State) : Result := .next (s.undefinedOp 0xFD#8)

end Sys2Proof.Machine
end

