-- ==== Sys2Proof/Machine/Rotate.lean ====
section
/-! DEFINITION. The accumulator rotates (45_rotate.md R220 to R223). -/

namespace Sys2Proof.Machine

/-- The bit a rotate moves out: the new CY. -/
def rotateOut (op : RotOp) (a : Byte) : Bool :=
  match op with
  | .rlca => a.getLsbD 7
  | .rrca => a.getLsbD 0
  | .rla => a.getLsbD 7
  | .rra => a.getLsbD 0

/-- The rotated byte: RLCA and RRCA move the bit out back in, RLA and RRA move the old CY in. -/
def rotateResult (op : RotOp) (a : Byte) (cy : Bool) : Byte :=
  match op with
  | .rlca => BitVec.ofNat 8 (a.toNat * 2 + (a.getLsbD 7).toNat)
  | .rrca => BitVec.ofNat 8 (a.toNat / 2 + (a.getLsbD 0).toNat * 0x80)
  | .rla => BitVec.ofNat 8 (a.toNat * 2 + cy.toNat)
  | .rra => BitVec.ofNat 8 (a.toNat / 2 + cy.toNat * 0x80)

/-- A rotate of A (R220 to R223). -/
def State.rotate (s : State) (op : RotOp) : State :=
  (({ s with a := rotateResult op s.a (s.flag .cy) }).setFlag .cy (rotateOut op s.a)).rotaFlags

/-! ### One meaning per instruction -/

/-- `RLCA` (R220). -/
def execRlca (s : State) : Result := .next ((s.advance 1).rotate .rlca)

/-- `RRCA` (R221). -/
def execRrca (s : State) : Result := .next ((s.advance 1).rotate .rrca)

/-- `RLA` (R222). -/
def execRla (s : State) : Result := .next ((s.advance 1).rotate .rla)

/-- `RRA` (R223). -/
def execRra (s : State) : Result := .next ((s.advance 1).rotate .rra)

end Sys2Proof.Machine
end

