-- ==== Sys2Proof/Machine/Fetch.lean ====
section
/-! DEFINITION. Fetching the instruction at PC (40_dispatcher.md R100, R102). -/

namespace Sys2Proof.Machine

/-- The three bytes from PC up, wrapping past 0xFFFF (R58, R88): as many as the longest instruction has. Reading a byte the instruction
does not have is unobservable, because a read changes nothing (R52; log 4). -/
def State.fetchBytes (s : State) : List Byte := [s.memRead s.pc, s.memRead (s.pc + 1#16), s.memRead (s.pc + 2#16)]

/-- The instruction at PC: every byte value is one (R103). -/
def State.fetchInstr (s : State) : Instr := decodeOp (s.memRead s.pc) (s.memRead (s.pc + 1#16)) (s.memRead (s.pc + 2#16))

end Sys2Proof.Machine
end

