-- ==== Sys2Proof/Machine/Step.lean ====
section
/-! DEFINITION. One step of the core (40_dispatcher.md R100, R101, R113), and placing an instruction where the next step fetches. -/

namespace Sys2Proof.Machine

/-- One step executes the instruction at PC. A state whose fault mark is set has no step (R113): it answers the reason it was
marked with. -/
def step (s : State) : Host.Outcome State Fault Refusal :=
  match s.faultMark with
  | some reason => .fault reason
  | none => exec s.fetchInstr s

/-- The loader (R252) storing the three bytes of a table word at PC, 0xFF01 included (R69). Nothing else changes: an unmarked state's
next step runs that instruction (log 5). -/
def State.withFetchWord (s : State) (nbits w : Nat) : State := s.load s.pc (tableBytes nbits w)

end Sys2Proof.Machine
end

