-- ==== Sys2Proof/Machine/Effects.lean ====
section
/-! DEFINITION. What each instruction may change, read from the spec's tables and apart from the meanings: the registers (10_state.md
R25), the flags (the summary after R29), the stored bytes (20_memory.md R59), and which instructions transfer control (R104). The
frame statements hold the meanings against these. -/

namespace Sys2Proof.Machine

/-- The 8-bit registers an instruction writes (R25), F apart. -/
def regsWritten (cfg : Config) (i : Instr) : List Reg8 :=
  match i with
  | .ldBCD16 _ | .incBC | .decBC | .popBC
    => [.b, .c]
  | .incB | .decB | .ldBD8 _ | .ldBB | .ldBC | .ldBD | .ldBE | .ldBH | .ldBL | .ldBAtHL | .ldBA
    => [.b]
  | .rlca | .ldAAtBC | .rrca | .rla | .ldAAtDE | .rra | .cpl | .incA | .decA | .ldAD8 _ | .ldAB | .ldAC
  | .ldAD | .ldAE | .ldAH | .ldAL | .ldAAtHL | .ldAA | .addAB | .addAC | .addAD | .addAE | .addAH | .addAL
  | .addAAtHL | .addAA | .adcAB | .adcAC | .adcAD | .adcAE | .adcAH | .adcAL | .adcAAtHL | .adcAA | .subB
  | .subC | .subD | .subE | .subH | .subL | .subAtHL | .subA | .sbcAB | .sbcAC | .sbcAD | .sbcAE | .sbcAH
  | .sbcAL | .sbcAAtHL | .sbcAA | .andB | .andC | .andD | .andE | .andH | .andL | .andAtHL | .andA | .xorB
  | .xorC | .xorD | .xorE | .xorH | .xorL | .xorAtHL | .xorA | .orB | .orC | .orD | .orE | .orH | .orL
  | .orAtHL | .orA | .addAD8 _ | .adcAD8 _ | .subD8 _ | .sbcAD8 _ | .andD8 _ | .xorD8 _ | .ldhAAtA8 _
  | .popAF | .ldAAtC | .orD8 _ | .ldAAtA16 _
    => [.a]
  | .addHLBC | .addHLDE | .ldHLD16 _ | .ldAtHLIncA | .incHL | .addHLHL | .decHL | .ldAtHLDecA | .addHLSP
  | .popHL | .ldHLSPE8 _
    => [.h, .l]
  | .incC | .decC | .ldCD8 _ | .ldCB | .ldCC | .ldCD | .ldCE | .ldCH | .ldCL | .ldCAtHL | .ldCA
    => [.c]
  | .ldDED16 _ | .incDE | .decDE | .popDE
    => [.d, .e]
  | .incD | .decD | .ldDD8 _ | .ldDB | .ldDC | .ldDD | .ldDE | .ldDH | .ldDL | .ldDAtHL | .ldDA
    => [.d]
  | .incE | .decE | .ldED8 _ | .ldEB | .ldEC | .ldED | .ldEE | .ldEH | .ldEL | .ldEAtHL | .ldEA
    => [.e]
  | .incH | .decH | .ldHD8 _ | .ldHB | .ldHC | .ldHD | .ldHE | .ldHH | .ldHL | .ldHAtHL | .ldHA
    => [.h]
  | .daa
    => if cfg.daa = .lr35902 then [.a] else []
  | .ldAAtHLInc | .ldAAtHLDec
    => [.a, .h, .l]
  | .incL | .decL | .ldLD8 _ | .ldLB | .ldLC | .ldLD | .ldLE | .ldLH | .ldLL | .ldLAtHL | .ldLA
    => [.l]
  | .nop | .ldAtBCA | .ldAtA16SP _ | .stop | .ldAtDEA | .jrE8 _ | .jrNZE8 _ | .jrZE8 _ | .jrNCE8 _
  | .ldSPD16 _ | .incSP | .incAtHL | .decAtHL | .ldAtHLD8 _ | .scf | .jrCE8 _ | .decSP | .ccf | .ldAtHLB
  | .ldAtHLC | .ldAtHLD | .ldAtHLE | .ldAtHLH | .ldAtHLL | .halt | .ldAtHLA | .cpB | .cpC | .cpD | .cpE
  | .cpH | .cpL | .cpAtHL | .cpA | .retNZ | .jpNZA16 _ | .jpA16 _ | .callNZA16 _ | .pushBC | .rst00 | .retZ
  | .ret | .jpZA16 _ | .prefixCB | .callZA16 _ | .callA16 _ | .rst08 | .retNC | .jpNCA16 _ | .gapD3
  | .callNCA16 _ | .pushDE | .rst10 | .retC | .reti | .jpCA16 _ | .gapDB | .callCA16 _ | .gapDD | .rst18
  | .ldhAtA8A _ | .ldAtCA | .gapE3 | .gapE4 | .pushHL | .rst20 | .addSPE8 _ | .jpHL | .ldAtA16A _ | .gapEB
  | .gapEC | .gapED | .rst28 | .di | .gapF4 | .pushAF | .rst30 | .ldSPHL | .ei | .gapFC | .gapFD | .cpD8 _
  | .rst38
    => []

/-- Whether an instruction may write SP (R25). -/
def mayWriteSP (i : Instr) : Bool :=
  match i with
  | .ldSPD16 _ | .incSP | .decSP | .retNZ | .popBC | .callNZA16 _ | .pushBC | .rst00 | .retZ | .ret
  | .callZA16 _ | .callA16 _ | .rst08 | .retNC | .popDE | .callNCA16 _ | .pushDE | .rst10 | .retC | .reti
  | .callCA16 _ | .rst18 | .popHL | .pushHL | .rst20 | .addSPE8 _ | .rst28 | .popAF | .pushAF | .rst30
  | .ldSPHL | .rst38
    => true
  | .nop | .ldBCD16 _ | .ldAtBCA | .incBC | .incB | .decB | .ldBD8 _ | .rlca | .ldAtA16SP _ | .addHLBC
  | .ldAAtBC | .decBC | .incC | .decC | .ldCD8 _ | .rrca | .stop | .ldDED16 _ | .ldAtDEA | .incDE | .incD
  | .decD | .ldDD8 _ | .rla | .jrE8 _ | .addHLDE | .ldAAtDE | .decDE | .incE | .decE | .ldED8 _ | .rra
  | .jrNZE8 _ | .ldHLD16 _ | .ldAtHLIncA | .incHL | .incH | .decH | .ldHD8 _ | .daa | .jrZE8 _ | .addHLHL
  | .ldAAtHLInc | .decHL | .incL | .decL | .ldLD8 _ | .cpl | .jrNCE8 _ | .ldAtHLDecA | .incAtHL | .decAtHL
  | .ldAtHLD8 _ | .scf | .jrCE8 _ | .addHLSP | .ldAAtHLDec | .incA | .decA | .ldAD8 _ | .ccf | .ldBB | .ldBC
  | .ldBD | .ldBE | .ldBH | .ldBL | .ldBAtHL | .ldBA | .ldCB | .ldCC | .ldCD | .ldCE | .ldCH | .ldCL
  | .ldCAtHL | .ldCA | .ldDB | .ldDC | .ldDD | .ldDE | .ldDH | .ldDL | .ldDAtHL | .ldDA | .ldEB | .ldEC
  | .ldED | .ldEE | .ldEH | .ldEL | .ldEAtHL | .ldEA | .ldHB | .ldHC | .ldHD | .ldHE | .ldHH | .ldHL
  | .ldHAtHL | .ldHA | .ldLB | .ldLC | .ldLD | .ldLE | .ldLH | .ldLL | .ldLAtHL | .ldLA | .ldAtHLB | .ldAtHLC
  | .ldAtHLD | .ldAtHLE | .ldAtHLH | .ldAtHLL | .halt | .ldAtHLA | .ldAB | .ldAC | .ldAD | .ldAE | .ldAH
  | .ldAL | .ldAAtHL | .ldAA | .addAB | .addAC | .addAD | .addAE | .addAH | .addAL | .addAAtHL | .addAA
  | .adcAB | .adcAC | .adcAD | .adcAE | .adcAH | .adcAL | .adcAAtHL | .adcAA | .subB | .subC | .subD | .subE
  | .subH | .subL | .subAtHL | .subA | .sbcAB | .sbcAC | .sbcAD | .sbcAE | .sbcAH | .sbcAL | .sbcAAtHL
  | .sbcAA | .andB | .andC | .andD | .andE | .andH | .andL | .andAtHL | .andA | .xorB | .xorC | .xorD | .xorE
  | .xorH | .xorL | .xorAtHL | .xorA | .orB | .orC | .orD | .orE | .orH | .orL | .orAtHL | .orA | .cpB | .cpC
  | .cpD | .cpE | .cpH | .cpL | .cpAtHL | .cpA | .jpNZA16 _ | .jpA16 _ | .addAD8 _ | .jpZA16 _ | .prefixCB
  | .adcAD8 _ | .jpNCA16 _ | .gapD3 | .subD8 _ | .jpCA16 _ | .gapDB | .gapDD | .sbcAD8 _ | .ldhAtA8A _
  | .ldAtCA | .gapE3 | .gapE4 | .andD8 _ | .jpHL | .ldAtA16A _ | .gapEB | .gapEC | .gapED | .xorD8 _
  | .ldhAAtA8 _ | .ldAAtC | .di | .gapF4 | .orD8 _ | .ldHLSPE8 _ | .ldAAtA16 _ | .ei | .gapFC | .gapFD
  | .cpD8 _
    => false

/-- The flags an instruction writes (the flag summary of 10_state.md); POP AF writes F whole. -/
def flagsWritten (cfg : Config) (i : Instr) : List Flag :=
  match i with
  | .incB | .decB | .incC | .decC | .incD | .decD | .incE | .decE | .incH | .decH | .incL | .decL | .incAtHL
  | .decAtHL | .incA | .decA
    => if cfg.incDec8Flags = .lr35902 then [.z, .n, .h] else [.z]
  | .rlca | .rrca | .rla | .rra
    => if cfg.rotaFlags = .lr35902 then [.z, .n, .h, .cy] else [.cy]
  | .addHLBC | .addHLDE | .addHLHL | .scf | .addHLSP | .ccf
    => [.n, .h, .cy]
  | .daa
    => if cfg.daa = .lr35902 then [.z, .h, .cy] else []
  | .cpl
    => [.n, .h]
  | .addAB | .addAC | .addAD | .addAE | .addAH | .addAL | .addAAtHL | .addAA | .adcAB | .adcAC | .adcAD
  | .adcAE | .adcAH | .adcAL | .adcAAtHL | .adcAA | .subB | .subC | .subD | .subE | .subH | .subL | .subAtHL
  | .subA | .sbcAB | .sbcAC | .sbcAD | .sbcAE | .sbcAH | .sbcAL | .sbcAAtHL | .sbcAA | .andB | .andC | .andD
  | .andE | .andH | .andL | .andAtHL | .andA | .xorB | .xorC | .xorD | .xorE | .xorH | .xorL | .xorAtHL
  | .xorA | .orB | .orC | .orD | .orE | .orH | .orL | .orAtHL | .orA | .cpB | .cpC | .cpD | .cpE | .cpH
  | .cpL | .cpAtHL | .cpA | .addAD8 _ | .adcAD8 _ | .subD8 _ | .sbcAD8 _ | .andD8 _ | .addSPE8 _ | .xorD8 _
  | .popAF | .orD8 _ | .ldHLSPE8 _ | .cpD8 _
    => [.z, .n, .h, .cy]
  | .nop | .ldBCD16 _ | .ldAtBCA | .incBC | .ldBD8 _ | .ldAtA16SP _ | .ldAAtBC | .decBC | .ldCD8 _ | .stop
  | .ldDED16 _ | .ldAtDEA | .incDE | .ldDD8 _ | .jrE8 _ | .ldAAtDE | .decDE | .ldED8 _ | .jrNZE8 _
  | .ldHLD16 _ | .ldAtHLIncA | .incHL | .ldHD8 _ | .jrZE8 _ | .ldAAtHLInc | .decHL | .ldLD8 _ | .jrNCE8 _
  | .ldSPD16 _ | .ldAtHLDecA | .incSP | .ldAtHLD8 _ | .jrCE8 _ | .ldAAtHLDec | .decSP | .ldAD8 _ | .ldBB
  | .ldBC | .ldBD | .ldBE | .ldBH | .ldBL | .ldBAtHL | .ldBA | .ldCB | .ldCC | .ldCD | .ldCE | .ldCH | .ldCL
  | .ldCAtHL | .ldCA | .ldDB | .ldDC | .ldDD | .ldDE | .ldDH | .ldDL | .ldDAtHL | .ldDA | .ldEB | .ldEC
  | .ldED | .ldEE | .ldEH | .ldEL | .ldEAtHL | .ldEA | .ldHB | .ldHC | .ldHD | .ldHE | .ldHH | .ldHL
  | .ldHAtHL | .ldHA | .ldLB | .ldLC | .ldLD | .ldLE | .ldLH | .ldLL | .ldLAtHL | .ldLA | .ldAtHLB | .ldAtHLC
  | .ldAtHLD | .ldAtHLE | .ldAtHLH | .ldAtHLL | .halt | .ldAtHLA | .ldAB | .ldAC | .ldAD | .ldAE | .ldAH
  | .ldAL | .ldAAtHL | .ldAA | .retNZ | .popBC | .jpNZA16 _ | .jpA16 _ | .callNZA16 _ | .pushBC | .rst00
  | .retZ | .ret | .jpZA16 _ | .prefixCB | .callZA16 _ | .callA16 _ | .rst08 | .retNC | .popDE | .jpNCA16 _
  | .gapD3 | .callNCA16 _ | .pushDE | .rst10 | .retC | .reti | .jpCA16 _ | .gapDB | .callCA16 _ | .gapDD
  | .rst18 | .ldhAtA8A _ | .popHL | .ldAtCA | .gapE3 | .gapE4 | .pushHL | .rst20 | .jpHL | .ldAtA16A _
  | .gapEB | .gapEC | .gapED | .rst28 | .ldhAAtA8 _ | .ldAAtC | .di | .gapF4 | .pushAF | .rst30 | .ldSPHL
  | .ldAAtA16 _ | .ei | .gapFC | .gapFD | .rst38
    => []

/-- The addresses an instruction writes in state `s`, whose PC addresses it (R59); one that is 0xFF01 goes to the sink instead. -/
def storeAddresses (i : Instr) (s : State) : List Word :=
  match i with
  | .ldAtA16SP a => [a, a + 1#16]
  | .ldhAtA8A n => [highPage n]
  | .ldAtA16A a => [a]
  | .ldAtBCA
    => [s.bc]
  | .ldAtDEA
    => [s.de]
  | .ldAtHLIncA | .ldAtHLDecA | .incAtHL | .decAtHL | .ldAtHLD8 _ | .ldAtHLB | .ldAtHLC | .ldAtHLD | .ldAtHLE
  | .ldAtHLH | .ldAtHLL | .ldAtHLA
    => [s.hl]
  | .callNZA16 _
    => if s.cond .nz then [s.sp - 1#16, s.sp - 2#16] else []
  | .pushBC | .rst00 | .callA16 _ | .rst08 | .pushDE | .rst10 | .rst18 | .pushHL | .rst20 | .rst28 | .pushAF
  | .rst30 | .rst38
    => [s.sp - 1#16, s.sp - 2#16]
  | .callZA16 _
    => if s.cond .z then [s.sp - 1#16, s.sp - 2#16] else []
  | .callNCA16 _
    => if s.cond .nc then [s.sp - 1#16, s.sp - 2#16] else []
  | .callCA16 _
    => if s.cond .c then [s.sp - 1#16, s.sp - 2#16] else []
  | .ldAtCA
    => [highPage s.c]
  | .nop | .ldBCD16 _ | .incBC | .incB | .decB | .ldBD8 _ | .rlca | .addHLBC | .ldAAtBC | .decBC | .incC
  | .decC | .ldCD8 _ | .rrca | .stop | .ldDED16 _ | .incDE | .incD | .decD | .ldDD8 _ | .rla | .jrE8 _
  | .addHLDE | .ldAAtDE | .decDE | .incE | .decE | .ldED8 _ | .rra | .jrNZE8 _ | .ldHLD16 _ | .incHL | .incH
  | .decH | .ldHD8 _ | .daa | .jrZE8 _ | .addHLHL | .ldAAtHLInc | .decHL | .incL | .decL | .ldLD8 _ | .cpl
  | .jrNCE8 _ | .ldSPD16 _ | .incSP | .scf | .jrCE8 _ | .addHLSP | .ldAAtHLDec | .decSP | .incA | .decA
  | .ldAD8 _ | .ccf | .ldBB | .ldBC | .ldBD | .ldBE | .ldBH | .ldBL | .ldBAtHL | .ldBA | .ldCB | .ldCC
  | .ldCD | .ldCE | .ldCH | .ldCL | .ldCAtHL | .ldCA | .ldDB | .ldDC | .ldDD | .ldDE | .ldDH | .ldDL
  | .ldDAtHL | .ldDA | .ldEB | .ldEC | .ldED | .ldEE | .ldEH | .ldEL | .ldEAtHL | .ldEA | .ldHB | .ldHC
  | .ldHD | .ldHE | .ldHH | .ldHL | .ldHAtHL | .ldHA | .ldLB | .ldLC | .ldLD | .ldLE | .ldLH | .ldLL
  | .ldLAtHL | .ldLA | .halt | .ldAB | .ldAC | .ldAD | .ldAE | .ldAH | .ldAL | .ldAAtHL | .ldAA | .addAB
  | .addAC | .addAD | .addAE | .addAH | .addAL | .addAAtHL | .addAA | .adcAB | .adcAC | .adcAD | .adcAE
  | .adcAH | .adcAL | .adcAAtHL | .adcAA | .subB | .subC | .subD | .subE | .subH | .subL | .subAtHL | .subA
  | .sbcAB | .sbcAC | .sbcAD | .sbcAE | .sbcAH | .sbcAL | .sbcAAtHL | .sbcAA | .andB | .andC | .andD | .andE
  | .andH | .andL | .andAtHL | .andA | .xorB | .xorC | .xorD | .xorE | .xorH | .xorL | .xorAtHL | .xorA
  | .orB | .orC | .orD | .orE | .orH | .orL | .orAtHL | .orA | .cpB | .cpC | .cpD | .cpE | .cpH | .cpL
  | .cpAtHL | .cpA | .retNZ | .popBC | .jpNZA16 _ | .jpA16 _ | .addAD8 _ | .retZ | .ret | .jpZA16 _
  | .prefixCB | .adcAD8 _ | .retNC | .popDE | .jpNCA16 _ | .gapD3 | .subD8 _ | .retC | .reti | .jpCA16 _
  | .gapDB | .gapDD | .sbcAD8 _ | .popHL | .gapE3 | .gapE4 | .andD8 _ | .addSPE8 _ | .jpHL | .gapEB | .gapEC
  | .gapED | .xorD8 _ | .ldhAAtA8 _ | .popAF | .ldAAtC | .di | .gapF4 | .orD8 _ | .ldHLSPE8 _ | .ldSPHL
  | .ldAAtA16 _ | .ei | .gapFC | .gapFD | .cpD8 _
    => []

/-- Whether an instruction is a control transfer, taken or not (R104, R201 to R211). -/
def isTransfer (i : Instr) : Bool :=
  match i with
  | .jrE8 _ | .jrNZE8 _ | .jrZE8 _ | .jrNCE8 _ | .jrCE8 _ | .retNZ | .jpNZA16 _ | .jpA16 _ | .callNZA16 _
  | .rst00 | .retZ | .ret | .jpZA16 _ | .callZA16 _ | .callA16 _ | .rst08 | .retNC | .jpNCA16 _
  | .callNCA16 _ | .rst10 | .retC | .reti | .jpCA16 _ | .callCA16 _ | .rst18 | .rst20 | .jpHL | .rst28
  | .rst30 | .rst38
    => true
  | .nop | .ldBCD16 _ | .ldAtBCA | .incBC | .incB | .decB | .ldBD8 _ | .rlca | .ldAtA16SP _ | .addHLBC
  | .ldAAtBC | .decBC | .incC | .decC | .ldCD8 _ | .rrca | .stop | .ldDED16 _ | .ldAtDEA | .incDE | .incD
  | .decD | .ldDD8 _ | .rla | .addHLDE | .ldAAtDE | .decDE | .incE | .decE | .ldED8 _ | .rra | .ldHLD16 _
  | .ldAtHLIncA | .incHL | .incH | .decH | .ldHD8 _ | .daa | .addHLHL | .ldAAtHLInc | .decHL | .incL | .decL
  | .ldLD8 _ | .cpl | .ldSPD16 _ | .ldAtHLDecA | .incSP | .incAtHL | .decAtHL | .ldAtHLD8 _ | .scf | .addHLSP
  | .ldAAtHLDec | .decSP | .incA | .decA | .ldAD8 _ | .ccf | .ldBB | .ldBC | .ldBD | .ldBE | .ldBH | .ldBL
  | .ldBAtHL | .ldBA | .ldCB | .ldCC | .ldCD | .ldCE | .ldCH | .ldCL | .ldCAtHL | .ldCA | .ldDB | .ldDC
  | .ldDD | .ldDE | .ldDH | .ldDL | .ldDAtHL | .ldDA | .ldEB | .ldEC | .ldED | .ldEE | .ldEH | .ldEL
  | .ldEAtHL | .ldEA | .ldHB | .ldHC | .ldHD | .ldHE | .ldHH | .ldHL | .ldHAtHL | .ldHA | .ldLB | .ldLC
  | .ldLD | .ldLE | .ldLH | .ldLL | .ldLAtHL | .ldLA | .ldAtHLB | .ldAtHLC | .ldAtHLD | .ldAtHLE | .ldAtHLH
  | .ldAtHLL | .halt | .ldAtHLA | .ldAB | .ldAC | .ldAD | .ldAE | .ldAH | .ldAL | .ldAAtHL | .ldAA | .addAB
  | .addAC | .addAD | .addAE | .addAH | .addAL | .addAAtHL | .addAA | .adcAB | .adcAC | .adcAD | .adcAE
  | .adcAH | .adcAL | .adcAAtHL | .adcAA | .subB | .subC | .subD | .subE | .subH | .subL | .subAtHL | .subA
  | .sbcAB | .sbcAC | .sbcAD | .sbcAE | .sbcAH | .sbcAL | .sbcAAtHL | .sbcAA | .andB | .andC | .andD | .andE
  | .andH | .andL | .andAtHL | .andA | .xorB | .xorC | .xorD | .xorE | .xorH | .xorL | .xorAtHL | .xorA
  | .orB | .orC | .orD | .orE | .orH | .orL | .orAtHL | .orA | .cpB | .cpC | .cpD | .cpE | .cpH | .cpL
  | .cpAtHL | .cpA | .popBC | .pushBC | .addAD8 _ | .prefixCB | .adcAD8 _ | .popDE | .gapD3 | .pushDE
  | .subD8 _ | .gapDB | .gapDD | .sbcAD8 _ | .ldhAtA8A _ | .popHL | .ldAtCA | .gapE3 | .gapE4 | .pushHL
  | .andD8 _ | .addSPE8 _ | .ldAtA16A _ | .gapEB | .gapEC | .gapED | .xorD8 _ | .ldhAAtA8 _ | .popAF
  | .ldAAtC | .di | .gapF4 | .pushAF | .orD8 _ | .ldHLSPE8 _ | .ldSPHL | .ldAAtA16 _ | .ei | .gapFC | .gapFD
  | .cpD8 _
    => false

end Sys2Proof.Machine
end

