-- ==== Sys2Proof/Safety.lean ====
section
/-! DEFINITION. The terms claims use: the invariant of every state a run reaches, when a fault is due, the end of a run, and how a
statement says what F holds and which bytes were stored. -/

namespace Sys2Proof.Machine

/-- The parameters under which no instruction faults (R33): R8's defaults are among them. -/
abbrev neverFaults (cfg : Config) : Prop := cfg.undefOp = .nop ∧ cfg.nongoalOp = .nop ∧ cfg.daa ≠ .fault

/-- `faults(op)` and `reason(op)` of R101, from the table of R231. -/
def faultReason (cfg : Config) (op : Byte) : Option Fault :=
  if op ∈ ([0xCB, 0xD3, 0xDB, 0xDD, 0xE3, 0xE4, 0xEB, 0xEC, 0xED, 0xF4, 0xFC, 0xFD] : List Byte) ∧ cfg.undefOp = .fault then
    some (.undefinedOpcode op)
  else if op ∈ ([0x10, 0x76, 0xF3, 0xFB] : List Byte) ∧ cfg.nongoalOp = .fault then some (.unimplementedOpcode op)
  else if op = 0x27#8 ∧ cfg.daa = .fault then some (.unimplementedOpcode op)
  else none

/-- What every step keeps: memory is in canonical form, bits 3 to 0 of F are zero (R27), and a set fault mark is the one the
parameters demand for the opcode PC addresses (R231, R234). -/
abbrev State.Inv (s : State) : Prop :=
  s.mem.wf ∧ s.f &&& 0x0F#8 = 0#8 ∧ (s.faultMark = none ∨ s.faultMark = faultReason s.cfg (s.memRead s.pc))

/-- PC addresses `18 FE`, the end-of-run marker `JR -2` (R258). -/
abbrev State.atMarker (s : State) : Prop := s.memRead s.pc = 0x18#8 ∧ s.memRead (s.pc + 1#16) = 0xFE#8

/-- The state ends a run (R258). -/
abbrev State.endsRun (s : State) : Prop := s.faultMark ≠ none ∨ s.atMarker

/-- The state ends a run and is not faulted: the safe end (R258). -/
abbrev State.endsRunSafely (s : State) : Prop := s.faultMark = none ∧ s.atMarker

/-- `Z*0x80 + N*0x40 + H*0x20 + CY*0x10` (R26). -/
def flagByte (z n h cy : Bool) : Byte :=
  BitVec.ofNat 8 (z.toNat * 0x80 + n.toNat * 0x40 + h.toNat * 0x20 + cy.toNat * 0x10)

/-- F of `s` with its four flags replaced (R26) and bits 3 to 0 as they are (R29): zero in every state of a run (R27). -/
def State.withFlags (s : State) (z n h cy : Bool) : Byte := flagByte z n h cy ||| (s.f &&& 0x0F#8)

/-- From `s` to `t` exactly the bytes of `stores` were written, in order and at different addresses: a byte at 0xFF01 is appended to the
sink and not stored (R56), every other byte is what its address now reads as (R54), and every other address reads as before. -/
def StoresBytes (s t : State) (stores : List (Word × Byte)) : Prop :=
  (∀ x : Word, t.memRead x =
    ((stores.find? (fun w => w.1 == x && x != sinkAddress)).map Prod.snd).getD (s.memRead x)) ∧
  t.sink = s.sink ++ (stores.filter (fun w => w.1 == sinkAddress)).map Prod.snd

/-- `i` executed `k` times in a row. -/
def execTimes (i : Instr) (k : Nat) (s : State) : Host.Outcome State Fault Refusal :=
  match k with
  | 0 => .next s
  | k + 1 =>
    match execTimes i k s with
    | .next t => exec i t
    | .fault r => .fault r
    | .refused r => .refused r

/-- `t` is `s` in every field but memory and sink. -/
def SameOutsideMemory (s t : State) : Prop := { t with mem := s.mem, sink := s.sink } = s

end Sys2Proof.Machine
end

