-- ==== Sys2Proof/Certificates/Slice0/Obligations.lean ====
section
/-! DEFINITION. The statements for the provers: encoding, the step, invariants, whole-machine frames, and the result of every
instruction. A record update in a result is its frame too: every field it does not name is unchanged. `exec i s` is the effect
of i in s with PC at its opcode, whatever memory holds there: the model's choice (log 6). -/

open Sys2Proof Sys2Proof.Machine

/-- For every instruction i, with every value of its immediates, and every list of bytes rest: decode of the encoding of i followed
by rest is i with rest left over. (30_encoding.md R80, 30_encoding.md R81, 30_encoding.md R89) -/
def Obligations.DecodeOfEncodeIsTheInstruction : Prop :=
  ∀ (i : Instr) (rest : List Byte), decode (i.encode ++ rest) = .instr i rest

/-- For all lists of bytes: if decode reads instruction i and leaves rest, the list is the encoding of i followed by rest. So every
code has one meaning and every meaning one code. (30_encoding.md R80, 30_encoding.md R81, 30_encoding.md R89) -/
def Obligations.EncodeOfDecodeIsTheBytes : Prop :=
  ∀ (bytes rest : List Byte) (i : Instr), decode bytes = .instr i rest → bytes = i.encode ++ rest

/-- For every opcode byte and any two bytes after it, the instruction decoded is encoded as that opcode byte followed by the first
0, 1 or 2 of them, how many depending on the opcode byte alone; so two opcode bytes never select the same instruction. Every
instruction is decoded from some bytes (R103). That the opcode byte alone decides the length is R80 and R81. (40_dispatcher.md
R103, 30_encoding.md R80, 30_encoding.md R81) -/
def Obligations.EveryOpcodeByteSelectsOneInstruction : Prop :=
  (∀ op b1 b2 : Byte, (decodeOp op b1 b2).encode = op :: [b1, b2].take (immediateCount op)) ∧
  (∀ op : Byte, immediateCount op ≤ 2) ∧
  (∀ op op' b1 b2 b1' b2' : Byte, decodeOp op b1 b2 = decodeOp op' b1' b2' → op = op') ∧
  (∀ i : Instr, ∃ op b1 b2 : Byte, decodeOp op b1 b2 = i)

/-- One word of each family, its opcode byte written bit by bit from the fields of R82 to R87: INC D, ADD HL,SP, LD B,(HL), SBC
A,d8, LD (a16),SP, CALL NC,a16, PUSH AF, RST 28H, RRA, LDH (a8),A, JR Z,e8, HALT and the gap 0xE4. (30_encoding.md R82 to R89) -/
def Obligations.SampleOpcodeBytesDecode : Prop :=
  decode [0b00010100#8] = .instr .incD [] ∧
  decode [0b00111001#8] = .instr .addHLSP [] ∧
  decode [0b01000110#8] = .instr .ldBAtHL [] ∧
  decode [0b11011110#8, 0x4F#8] = .instr (.sbcAD8 0x4F#8) [] ∧
  decode [0b00001000#8, 0x34#8, 0x12#8] = .instr (.ldAtA16SP 0x1234#16) [] ∧
  decode [0b11010100#8, 0x00#8, 0x20#8] = .instr (.callNCA16 0x2000#16) [] ∧
  decode [0b11110101#8] = .instr .pushAF [] ∧
  decode [0b11101111#8] = .instr .rst28 [] ∧
  decode [0b00011111#8] = .instr .rra [] ∧
  decode [0b11100000#8, 0x01#8] = .instr (.ldhAtA8A 0x01#8) [] ∧
  decode [0b00101000#8, 0xFC#8] = .instr (.jrZE8 0xFC#8) [] ∧
  decode [0b01110110#8] = .instr .halt [] ∧
  decode [0b11100100#8] = .instr .gapE4 []

/-- For every state with no fault mark: if the three bytes from PC up decode to instruction i, step is exec of i at that state. PC
is moved by the meaning itself, so step adds nothing. That a step reads three bytes and the meaning moves PC past the
instruction is the model's reading of R101 and R102 (log 4), and exec as a function of instruction and state is the model's
choice (log 6). (40_dispatcher.md R100, 40_dispatcher.md R101, 40_dispatcher.md R102) -/
def Obligations.StepRunsTheDecodedInstruction : Prop :=
  ∀ (s : State) (i : Instr) (rest : List Byte),
    s.faultMark = none → decode s.fetchBytes = .instr i rest → step s = exec i s

/-- For every instruction i and every state with no fault mark in which the byte at PC + k mod 2^16 is byte k of the encoding of i,
for each byte it has: step is exec of i. The bytes after the instruction do not matter. That exec is a function of instruction
and state, and reads no instruction byte itself, is the model's choice (log 4, log 6). (40_dispatcher.md R100, 40_dispatcher.md
R102, 20_memory.md R58) -/
def Obligations.StepRunsTheInstructionStoredAtPc : Prop :=
  ∀ (s : State) (i : Instr), s.faultMark = none →
    (∀ (k : Nat) (b : Byte), i.encode[k]? = some b → s.memRead (s.pc + BitVec.ofNat 16 k) = b) → step s = exec i s

/-- For every state marked with reason r, step answers the fault r. That a stuck state answers a fault with its own reason is the
model's way of saying R113 (log 2). (40_dispatcher.md R113, 10_state.md R33) -/
def Obligations.FaultedStateHasNoStep : Prop :=
  ∀ (s : State) (r : Fault), s.faultMark = some r → step s = .fault r

/-- For every instruction i and state s there is a t with exec i s = next t: nothing is refused and nothing stops. Every state with
no fault mark has a step. (60_exceptions.md R230, 40_dispatcher.md R101, 70_reset_and_hazards.md R258) -/
def Obligations.EveryInstructionCompletes : Prop :=
  (∀ (i : Instr) (s : State), ∃ t : State, exec i s = .next t) ∧
  (∀ s : State, s.faultMark = none → ∃ t : State, step s = .next t)

/-- For every state with no fault mark: if the parameters demand reason r for the opcode byte at PC, the step only sets the mark to
r (PC still addresses the opcode); if they demand none, the step leaves the mark unset. That raising is a next state with the
mark set is the model's (log 2). (40_dispatcher.md R101, 60_exceptions.md R231, 60_exceptions.md R234) -/
def Obligations.FaultsExactlyWhenTheParametersSay : Prop :=
  ∀ s : State, s.faultMark = none →
    (∀ r : Fault, faultReason s.cfg (s.memRead s.pc) = some r → step s = .next { s with faultMark := some r }) ∧
    (faultReason s.cfg (s.memRead s.pc) = none → ∀ t : State, step s = .next t → t.faultMark = none)

/-- For every state with no fault mark whose parameters hold no fault value, and every k: k steps reach a state, and its fault mark
is unset. R8's defaults are such parameters. (10_state.md R33, 70_reset_and_hazards.md R258) -/
def Obligations.NothingFaultsUnderNopPolicies : Prop :=
  neverFaults Config.default ∧
  ∀ (k : Nat) (s : State), s.faultMark = none → neverFaults s.cfg →
    ∃ t : State, Host.Core.run Sys2Proof.core k s = .next t ∧ t.faultMark = none

/-- For every choice of parameters, at construction A, F, B, C, D, E, H, L and SP are 0, the flags are 0, every byte of memory reads
0, the sink is empty, the fault mark is none and PC is RESET_PC; for the reset state, under the defaults, PC is 0x0100. The
loader (R69, R252) writes memory only: for every state, address x and list of bytes, byte k is then what x + k mod 2^16 reads,
at 0xFF01 too (where the list is longer than memory, its last 65,536 bytes), every other address reads as before, and every
other field is unchanged. That a program comes from such a load, the function load, is the model's choice (log 5). (10_state.md
R38, 20_memory.md R69, 70_reset_and_hazards.md R252) -/
def Obligations.ConstructionValues : Prop :=
  (∀ cfg : Config,
    (State.construct cfg).a = 0#8 ∧ (State.construct cfg).f = 0#8 ∧ (State.construct cfg).b = 0#8 ∧
    (State.construct cfg).c = 0#8 ∧ (State.construct cfg).d = 0#8 ∧ (State.construct cfg).e = 0#8 ∧
    (State.construct cfg).h = 0#8 ∧ (State.construct cfg).l = 0#8 ∧ (State.construct cfg).sp = 0#16 ∧
    (State.construct cfg).af = 0#16 ∧ (State.construct cfg).bc = 0#16 ∧ (State.construct cfg).de = 0#16 ∧
    (State.construct cfg).hl = 0#16 ∧
    (State.construct cfg).pc = cfg.resetPc ∧ (∀ fl : Flag, (State.construct cfg).flag fl = false) ∧
    (∀ x : Word, (State.construct cfg).memRead x = 0#8) ∧ (State.construct cfg).sink = [] ∧
    (State.construct cfg).faultMark = none ∧ (State.construct cfg).cfg = cfg) ∧
  State.reset = State.construct Config.default ∧ State.reset.pc = 0x0100#16 ∧
  (∀ (s : State) (x : Word) (bytes : List Byte), ({ s.load x bytes with mem := s.mem } : State) = s ∧
    (∀ (k : Nat) (v : Byte), bytes[k]? = some v → bytes.length ≤ 65536 + k →
      (s.load x bytes).memRead (x + BitVec.ofNat 16 k) = v) ∧
    (∀ y : Word, (∀ k : Nat, k < bytes.length → y ≠ x + BitVec.ofNat 16 k) →
      (s.load x bytes).memRead y = s.memRead y))

/-- For every choice of parameters the state at construction has memory in canonical form, bits 3 to 0 of F zero and no fault mark;
so has the reset state. The canonical form is the model's choice (log 7). (10_state.md R27, 10_state.md R38) -/
def Obligations.ConstructionMeetsTheInvariant : Prop :=
  (∀ cfg : Config, (State.construct cfg).Inv) ∧ State.reset.Inv

/-- If memory is in canonical form, bits 3 to 0 of F are zero and a set fault mark is the one the parameters demand for the opcode
at PC, then so it is after any step. The canonical form and the mark are the model's (log 7, log 2). (10_state.md R27,
60_exceptions.md R231, 60_exceptions.md R234) -/
def Obligations.StepKeepsTheInvariant : Prop :=
  ∀ s t : State, s.Inv → step s = .next t → t.Inv

/-- For every state and step, the parameters after are the parameters before: they are fixed for a run. (40_dispatcher.md R112) -/
def Obligations.ParametersNeverChange : Prop :=
  ∀ s t : State, step s = .next t → t.cfg = s.cfg

/-- For every state, number of steps and state reached: a read of 0xFF01 gives what it gave at the start. Only the loader can put a
byte there. (20_memory.md R53, 20_memory.md R56) -/
def Obligations.ByteAtSinkAddressNeverChanges : Prop :=
  ∀ (k : Nat) (s t : State), Host.Core.run Sys2Proof.core k s = .next t →
    t.memRead sinkAddress = s.memRead sinkAddress

/-- For every step the sink after is the sink before, or that with one byte at its end; and where the sink has changed, 0xFF01 is
among the addresses the instruction at PC writes. (20_memory.md R56, 20_memory.md R60, 10_state.md R34) -/
def Obligations.StepSendsAtMostOneByteToTheSink : Prop :=
  ∀ s t : State, step s = .next t →
    (t.sink = s.sink ∨ ∃ v : Byte, t.sink = s.sink ++ [v]) ∧
    (t.sink ≠ s.sink → sinkAddress ∈ storeAddresses s.fetchInstr s)

/-- For every step there are bytes out such that the sink after is the sink before followed by out, and from the same state with any
other sink the step gives the same state with that sink followed by the same out. (10_state.md R34) -/
def Obligations.SinkIsNeverRead : Prop :=
  ∀ s t : State, step s = .next t →
    ∃ out : List Byte, t.sink = s.sink ++ out ∧
      ∀ other : List Byte, step { s with sink := other } = .next { t with sink := other ++ out }

/-- For every instruction i (LD (HL),r and LD (HL),d8, the accumulator stores, LD (a16),SP, INC (HL), DEC (HL), PUSH, CALL and CALL
cc when taken, RST; all others write no address) and state s: storeAddresses i s computes the addresses written from the state
before, and every address that is not among them reads after as before. (20_memory.md R54, 20_memory.md R59) -/
def Obligations.MemoryFrame : Prop :=
  ∀ (i : Instr) (s t : State) (x : Word), exec i s = .next t → x ∉ storeAddresses i s → t.memRead x = s.memRead x

/-- For every instruction i and state s: every flag not among those the flag summary lists for i, under the parameters of s, is
unchanged; and bits 3 to 0 of F are unchanged, except by POP AF, which clears them (log 3). (10_state.md flag summary after R29,
10_state.md R29) -/
def Obligations.FlagFrame : Prop :=
  ∀ (i : Instr) (s t : State), exec i s = .next t →
    (∀ fl : Flag, fl ∉ flagsWritten s.cfg i → t.flag fl = s.flag fl) ∧
    (i ≠ .popAF → t.f &&& 0x0F#8 = s.f &&& 0x0F#8) ∧ (i = .popAF → t.f &&& 0x0F#8 = 0#8)

/-- For every instruction i and state s: every one of A, B, C, D, E, H, L not among those i writes is unchanged, and SP is unchanged
unless i is one that may write it (LD SP,d16, LD SP,HL, INC SP, DEC SP, ADD SP,e8, PUSH, POP, CALL, RET, RETI, RST). So the
other half of a written half is unchanged. (10_state.md R22, 10_state.md R25, 44_control_flow.md R213) -/
def Obligations.RegisterFrame : Prop :=
  ∀ (i : Instr) (s t : State), exec i s = .next t →
    (∀ r : Reg8, r ∉ regsWritten s.cfg i → t.readReg r = s.readReg r) ∧ (mayWriteSP i = false → t.sp = s.sp)

/-- For every instruction i that is no jump, call, return or restart, and every state with no mark: if the state after has no mark,
its PC is the PC before plus the number of bytes of i, mod 2^16. (10_state.md R30, 40_dispatcher.md R104) -/
def Obligations.PcAfterANonTransfer : Prop :=
  ∀ (i : Instr) (s t : State), s.faultMark = none → exec i s = .next t → t.faultMark = none → isTransfer i = false →
    t.pc = s.pc + BitVec.ofNat 16 i.length

/-- For every state, address a and byte v: after MemWrite(a, 1, v) with a not 0xFF01, a reads v, every other address reads as
before, and every register, the sink and the mark are unchanged; MemWrite(0xFF01, 1, v) appends v to the sink and changes
nothing else, so 0xFF01 reads as before. The 16-bit value at a is 256 times the byte at a+1 mod 2^16 plus the byte at a. (R54,
R55, R56) -/
def Obligations.MemoryAccess : Prop :=
  (∀ (s : State) (a x : Word) (v : Byte), a ≠ 0xFF01#16 →
    (s.memWrite a v).memRead x = (if x = a then v else s.memRead x) ∧ { s.memWrite a v with mem := s.mem } = s) ∧
  (∀ (s : State) (v : Byte), s.memWrite 0xFF01#16 v = { s with sink := s.sink ++ [v] } ∧
    (s.memWrite 0xFF01#16 v).memRead 0xFF01#16 = s.memRead 0xFF01#16) ∧
  (∀ (s : State) (a : Word), (s.memRead16 a).toNat = 256 * (s.memRead (a + 1#16)).toNat + (s.memRead a).toNat)

/-- For all memories in canonical form: if every one of the 65,536 addresses reads the same in both, they are the same list. The
canonical form is the model's own (log 7), so that a state is plain data. (10_state.md R35, 20_memory.md R64) -/
def Obligations.CanonicalMemoryIsItsBytes : Prop :=
  ∀ m m' : Memory, m.wf → m'.wf → (∀ x : Word, m.read x.toNat = m'.read x.toNat) → m = m'

/-- For every state: a register half reads what was last written to it and writing it leaves every other half, SP and PC alone; AF,
BC, DE, HL read as high half times 256 plus low half; writing BC, DE, HL stores bits 15 to 8 in the high half and bits 7 to 0 in
the low half and reads back whole; AF is written the same way with bits 3 to 0 of F cleared. What writing a pair does is the
spec's own derivation from R21 and R22 (R23); that writing AF clears bits 3 to 0 of F is R27, as the spec derives it for POP AF
(R186). (10_state.md R21, 10_state.md R22, 10_state.md R23, 10_state.md R27, 43_load_store.md R186) -/
def Obligations.RegisterHalvesAndPairs : Prop :=
  (∀ (s : State) (r x : Reg8) (v : Byte), (s.writeReg r v).readReg x = (if x = r then v else s.readReg x) ∧
    (s.writeReg r v).f = s.f ∧ (s.writeReg r v).sp = s.sp ∧ (s.writeReg r v).pc = s.pc) ∧
  (∀ s : State, s.af.toNat = s.a.toNat * 256 + s.f.toNat ∧ s.bc.toNat = s.b.toNat * 256 + s.c.toNat ∧
    s.de.toNat = s.d.toNat * 256 + s.e.toNat ∧ s.hl.toNat = s.h.toNat * 256 + s.l.toNat) ∧
  (∀ (s : State) (v : Word),
    (s.writeBC v = { s with b := v.extractLsb' 8 8, c := v.extractLsb' 0 8 } ∧ (s.writeBC v).bc = v) ∧
    (s.writeDE v = { s with d := v.extractLsb' 8 8, e := v.extractLsb' 0 8 } ∧ (s.writeDE v).de = v) ∧
    (s.writeHL v = { s with h := v.extractLsb' 8 8, l := v.extractLsb' 0 8 } ∧ (s.writeHL v).hl = v) ∧
    s.writeAF v = { s with a := v.extractLsb' 8 8, f := v.extractLsb' 0 8 &&& 0xF0#8 })

/-- For every state: the flags are bits 7 to 4 of F; where bits 3 to 0 are zero, F is Z*0x80 + N*0x40 + H*0x20 + CY*0x10; after a
flag is written it reads so, every other flag and bits 3 to 0 read as before, and no other field changes; a whole write of F
stores bits 7 to 4 and 0 in bits 3 to 0 (R27), and changes no other field. Which flag has which bit is "the spec's reading of
"bits 7–4"" (R26); that a flag write keeps bits 3 to 0 in states no run reaches too is R29 (log 3). (10_state.md R26,
10_state.md R27, 10_state.md R29) -/
def Obligations.FlagBitsAndPrimitives : Prop :=
  (∀ s : State, s.flag .z = s.f.getLsbD 7 ∧ s.flag .n = s.f.getLsbD 6 ∧ s.flag .h = s.f.getLsbD 5 ∧ s.flag .cy = s.f.getLsbD 4) ∧
  (∀ s : State, s.f &&& 0x0F#8 = 0#8 → s.f.toNat = (s.flag .z).toNat * 0x80 + (s.flag .n).toNat * 0x40 +
    (s.flag .h).toNat * 0x20 + (s.flag .cy).toNat * 0x10) ∧
  (∀ (s : State) (fl x : Flag) (v : Bool), (s.setFlag fl v).flag x = (if x = fl then v else s.flag x) ∧
    (s.setFlag fl v).f &&& 0x0F#8 = s.f &&& 0x0F#8 ∧ { s.setFlag fl v with f := s.f } = s) ∧
  (∀ (s : State) (v : Byte), (s.writeF v).f &&& 0x0F#8 = 0#8 ∧ (s.writeF v).f &&& 0xF0#8 = v &&& 0xF0#8 ∧
    { s.writeF v with f := s.f } = s)

/-- For every state, NOP, the byte 0x00, gives the state with PC plus 1 mod 2^16. (R105) -/
def Obligations.NopResult : Prop :=
  Instr.nop.encode = [0x00#8] ∧ ∀ s : State, exec .nop s = .next { s with pc := s.pc + 1#16 }

/-- For each of 0xCB, 0xD3, 0xDB, 0xDD, 0xE3, 0xE4, 0xEB, 0xEC, 0xED, 0xF4, 0xFC, 0xFD: it is one byte; under UNDEF_OP_POLICY = nop
only PC moves, by 1, so the byte after it is the next opcode; under fault only the mark is set, to UndefinedOpcode(op). (R106,
R107) -/
def Obligations.OpcodesWithNoInstruction : Prop :=
  Instr.undefinedOps.map Prod.fst =
    [0xCB#8, 0xD3#8, 0xDB#8, 0xDD#8, 0xE3#8, 0xE4#8, 0xEB#8, 0xEC#8, 0xED#8, 0xF4#8, 0xFC#8, 0xFD#8] ∧
  ∀ x ∈ Instr.undefinedOps, x.2.encode = [x.1] ∧ ∀ s : State,
    (s.cfg.undefOp = .nop → exec x.2 s = .next { s with pc := s.pc + 1#16 }) ∧
    (s.cfg.undefOp = .fault → exec x.2 s = .next { s with faultMark := some (.undefinedOpcode x.1) })

/-- For each of STOP 0x10, HALT 0x76, DI 0xF3, EI 0xFB: it is one byte; under NONGOAL_OP_POLICY = nop only PC moves, by 1 (no
low-power state is entered, nothing is enabled); under fault only the mark is set, to UnimplementedOpcode(op). (R108, R109,
R110, R111) -/
def Obligations.NonGoalOpcodes : Prop :=
  Instr.nongoalOps = [(0x10#8, .stop), (0x76#8, .halt), (0xF3#8, .di), (0xFB#8, .ei)] ∧
  ∀ x ∈ Instr.nongoalOps, x.2.encode = [x.1] ∧ ∀ s : State,
    (s.cfg.nongoalOp = .nop → exec x.2 s = .next { s with pc := s.pc + 1#16 }) ∧
    (s.cfg.nongoalOp = .fault → exec x.2 s = .next { s with faultMark := some (.unimplementedOpcode x.1) })

/-- For every register r of B, C, D, E, H, L, A and every state: INC r (0x04 + 8r) and DEC r (0x05 + 8r) write the register plus or
minus 1 mod 2^8 and Z; under z_only N and H are kept, under lr35902 N is 0 or 1 and H is the carry out of or the borrow into bit
3; nothing else but PC changes. (R120, R121) -/
def Obligations.IncAndDecOfARegister : Prop :=
  ∀ (r : Reg8) (s : State),
    (Instr.incReg r).encode = [BitVec.ofNat 8 (0x04 + 8 * r.field)] ∧
    (Instr.decReg r).encode = [BitVec.ofNat 8 (0x05 + 8 * r.field)] ∧
    exec (Instr.incReg r) s = .next
      { s.writeReg r (BitVec.ofNat 8 ((s.readReg r).toNat + 1)) with
        f := if s.cfg.incDec8Flags = .lr35902 then
            s.withFlags (decide ((s.readReg r).toNat = 0xFF)) false (decide ((s.readReg r).toNat % 16 = 0xF)) (s.flag .cy)
          else s.withFlags (decide ((s.readReg r).toNat = 0xFF)) (s.flag .n) (s.flag .h) (s.flag .cy)
        pc := s.pc + 1#16 } ∧
    exec (Instr.decReg r) s = .next
      { s.writeReg r (BitVec.ofInt 8 ((s.readReg r).toNat - 1)) with
        f := if s.cfg.incDec8Flags = .lr35902 then
            s.withFlags (decide ((s.readReg r).toNat = 0x01)) true (decide ((s.readReg r).toNat % 16 = 0x0)) (s.flag .cy)
          else s.withFlags (decide ((s.readReg r).toNat = 0x01)) (s.flag .n) (s.flag .h) (s.flag .cy)
        pc := s.pc + 1#16 }

/-- For every state: INC (HL) (0x34) and DEC (HL) (0x35) store the byte at HL plus or minus 1 mod 2^8 at HL, or send it to the sink
where HL is 0xFF01; the flags are those of INC r and DEC r; HL and every other register but PC, and every other byte of memory,
are unchanged. (R122, R123) -/
def Obligations.IncAndDecOfTheByteAtHL : Prop :=
  Instr.incAtHL.encode = [0x34#8] ∧ Instr.decAtHL.encode = [0x35#8] ∧
  ∀ s : State,
    (∃ t : State, exec .incAtHL s = .next t ∧
      StoresBytes s t [(s.hl, BitVec.ofNat 8 ((s.memRead s.hl).toNat + 1))] ∧
      SameOutsideMemory { s with
        f := if s.cfg.incDec8Flags = .lr35902 then
            s.withFlags (decide ((s.memRead s.hl).toNat = 0xFF)) false (decide ((s.memRead s.hl).toNat % 16 = 0xF)) (s.flag .cy)
          else s.withFlags (decide ((s.memRead s.hl).toNat = 0xFF)) (s.flag .n) (s.flag .h) (s.flag .cy)
        pc := s.pc + 1#16 } t) ∧
    (∃ t : State, exec .decAtHL s = .next t ∧
      StoresBytes s t [(s.hl, BitVec.ofInt 8 ((s.memRead s.hl).toNat - 1))] ∧
      SameOutsideMemory { s with
        f := if s.cfg.incDec8Flags = .lr35902 then
            s.withFlags (decide ((s.memRead s.hl).toNat = 0x01)) true (decide ((s.memRead s.hl).toNat % 16 = 0x0)) (s.flag .cy)
          else s.withFlags (decide ((s.memRead s.hl).toNat = 0x01)) (s.flag .n) (s.flag .h) (s.flag .cy)
        pc := s.pc + 1#16 } t)

/-- For every rr of BC, DE, HL, SP and every state: INC rr (0x03 + 16rr) and DEC rr (0x0B + 16rr) write the pair plus or minus 1 mod
2^16 and nothing else but PC; no flag is written. (R124, R125) -/
def Obligations.IncAndDecOfAPair : Prop :=
  ∀ (p : Pair) (s : State),
    (Instr.incPair p).encode = [BitVec.ofNat 8 (0x03 + 16 * p.field)] ∧
    (Instr.decPair p).encode = [BitVec.ofNat 8 (0x0B + 16 * p.field)] ∧
    exec (Instr.incPair p) s =
      .next { s.writePair p (BitVec.ofNat 16 ((s.readPair p).toNat + 1)) with pc := s.pc + 1#16 } ∧
    exec (Instr.decPair p) s =
      .next { s.writePair p (BitVec.ofInt 16 ((s.readPair p).toNat - 1)) with pc := s.pc + 1#16 }

/-- For each of the eight operations and every source: the register and self forms are 0x80 + 8*alu + r, the (HL) form is 0x86 +
8*alu, the immediate form is 0xC6 + 8*alu and the byte; and the instruction gives the same state, PC apart, as the immediate
form whose byte is the operand's value, read before A is written. HL and memory are never written. (R130) -/
def Obligations.AluOperandForms : Prop :=
  ∀ (op : AluOp) (src : Src8) (s : State),
    (Instr.alu op src).encode = (match src with
      | .reg r => [BitVec.ofNat 8 (0x80 + 8 * op.field + r.field)]
      | .atHL => [BitVec.ofNat 8 (0x86 + 8 * op.field)]
      | .imm v => [BitVec.ofNat 8 (0xC6 + 8 * op.field), v]) ∧
    s.readSrc src = (match src with
      | .reg r => s.readReg r
      | .atHL => s.memRead s.hl
      | .imm v => v) ∧
    ∃ t u : State, exec (Instr.alu op src) s = .next t ∧ exec (Instr.alu op (.imm (s.readSrc src))) s = .next u ∧
      { t with pc := u.pc } = u ∧ t.pc = s.pc + BitVec.ofNat 16 (Instr.alu op src).encode.length ∧
      t.hl = s.hl ∧ t.mem = s.mem

/-- ADD is 0x80 + r, 0x86 or 0xC6 d8, ADC 0x88 + r, 0x8E or 0xCE d8. For every source (B, C, D, E, H, L, A, (HL), d8) and state: ADD
writes A + v, ADC A + v + CY, mod 2^8; Z if that is 0; N = 0; H if the low-nibble sum (with the carry-in) exceeds 15; CY if the
unreduced sum exceeds 255. No other register and no byte of memory changes. (R131, R132) -/
def Obligations.AddAndAdcResults : Prop :=
  (∀ r : Reg8, (Instr.alu .add (.reg r)).encode = [BitVec.ofNat 8 (0x80 + r.field)]) ∧
  (Instr.alu .add .atHL).encode = [0x86#8] ∧ (∀ v : Byte, (Instr.alu .add (.imm v)).encode = [0xC6#8, v]) ∧
  (∀ r : Reg8, (Instr.alu .adc (.reg r)).encode = [BitVec.ofNat 8 (0x88 + r.field)]) ∧
  (Instr.alu .adc .atHL).encode = [0x8E#8] ∧ (∀ v : Byte, (Instr.alu .adc (.imm v)).encode = [0xCE#8, v]) ∧
  ∀ (src : Src8) (s : State),
    exec (Instr.alu .add src) s = .next
      { s with
        a := BitVec.ofNat 8 (s.a.toNat + (s.readSrc src).toNat)
        f := s.withFlags (decide ((s.a.toNat + (s.readSrc src).toNat) % 256 = 0)) false
          (decide (s.a.toNat % 16 + (s.readSrc src).toNat % 16 > 0xF))
          (decide (s.a.toNat + (s.readSrc src).toNat > 0xFF))
        pc := s.pc + BitVec.ofNat 16 (Instr.alu .add src).length } ∧
    exec (Instr.alu .adc src) s = .next
      { s with
        a := BitVec.ofNat 8 (s.a.toNat + (s.readSrc src).toNat + (s.flag .cy).toNat)
        f := s.withFlags (decide ((s.a.toNat + (s.readSrc src).toNat + (s.flag .cy).toNat) % 256 = 0)) false
          (decide (s.a.toNat % 16 + (s.readSrc src).toNat % 16 + (s.flag .cy).toNat > 0xF))
          (decide (s.a.toNat + (s.readSrc src).toNat + (s.flag .cy).toNat > 0xFF))
        pc := s.pc + BitVec.ofNat 16 (Instr.alu .adc src).length }

/-- SUB is 0x90 + r, 0x96 or 0xD6 d8, SBC 0x98 + r, 0x9E or 0xDE d8. For every source and state, with dec the unreduced operand
(plus CY for SBC): A is A - dec mod 2^8; Z if that is 0; N = 1; H if the low nibble of A is below the low nibble of the operand
(plus CY); CY if A is below dec. No other register and no byte of memory changes. (R133, R134) -/
def Obligations.SubAndSbcResults : Prop :=
  (∀ r : Reg8, (Instr.alu .sub (.reg r)).encode = [BitVec.ofNat 8 (0x90 + r.field)]) ∧
  (Instr.alu .sub .atHL).encode = [0x96#8] ∧ (∀ v : Byte, (Instr.alu .sub (.imm v)).encode = [0xD6#8, v]) ∧
  (∀ r : Reg8, (Instr.alu .sbc (.reg r)).encode = [BitVec.ofNat 8 (0x98 + r.field)]) ∧
  (Instr.alu .sbc .atHL).encode = [0x9E#8] ∧ (∀ v : Byte, (Instr.alu .sbc (.imm v)).encode = [0xDE#8, v]) ∧
  ∀ (src : Src8) (s : State),
    exec (Instr.alu .sub src) s = .next
      { s with
        a := BitVec.ofInt 8 (s.a.toNat - ((s.readSrc src).toNat) : Int)
        f := s.withFlags (decide ((s.a.toNat - ((s.readSrc src).toNat) : Int) % 256 = 0)) true
          (decide (s.a.toNat % 16 < (s.readSrc src).toNat % 16))
          (decide (s.a.toNat < (s.readSrc src).toNat))
        pc := s.pc + BitVec.ofNat 16 (Instr.alu .sub src).length } ∧
    exec (Instr.alu .sbc src) s = .next
      { s with
        a := BitVec.ofInt 8 (s.a.toNat - ((s.readSrc src).toNat + (s.flag .cy).toNat) : Int)
        f := s.withFlags (decide ((s.a.toNat - ((s.readSrc src).toNat + (s.flag .cy).toNat) : Int) % 256 = 0)) true
          (decide (s.a.toNat % 16 < (s.readSrc src).toNat % 16 + (s.flag .cy).toNat))
          (decide (s.a.toNat < (s.readSrc src).toNat + (s.flag .cy).toNat))
        pc := s.pc + BitVec.ofNat 16 (Instr.alu .sbc src).length }

/-- AND is 0xA0 + r, 0xA6 or 0xE6 d8, XOR 0xA8 + r, 0xAE or 0xEE d8, OR 0xB0 + r, 0xB6 or 0xF6 d8. For every source and state: A is
the bitwise and, exclusive or, or of A and the operand; Z if it is 0; N and CY are cleared; H is set by AND and cleared by XOR
and OR. No other register but PC and no byte of memory changes. (R135, R136, R137) -/
def Obligations.AndXorOrResults : Prop :=
  (∀ r : Reg8, (Instr.alu .and (.reg r)).encode = [BitVec.ofNat 8 (0xA0 + r.field)]) ∧
  (Instr.alu .and .atHL).encode = [0xA6#8] ∧ (∀ v : Byte, (Instr.alu .and (.imm v)).encode = [0xE6#8, v]) ∧
  (∀ r : Reg8, (Instr.alu .xor (.reg r)).encode = [BitVec.ofNat 8 (0xA8 + r.field)]) ∧
  (Instr.alu .xor .atHL).encode = [0xAE#8] ∧ (∀ v : Byte, (Instr.alu .xor (.imm v)).encode = [0xEE#8, v]) ∧
  (∀ r : Reg8, (Instr.alu .or (.reg r)).encode = [BitVec.ofNat 8 (0xB0 + r.field)]) ∧
  (Instr.alu .or .atHL).encode = [0xB6#8] ∧ (∀ v : Byte, (Instr.alu .or (.imm v)).encode = [0xF6#8, v]) ∧
  ∀ (src : Src8) (s : State),
    exec (Instr.alu .and src) s = .next
      { s with
        a := s.a &&& s.readSrc src
        f := s.withFlags (decide ((s.a &&& s.readSrc src).toNat = 0)) false true false
        pc := s.pc + BitVec.ofNat 16 (Instr.alu .and src).length } ∧
    exec (Instr.alu .xor src) s = .next
      { s with
        a := s.a ^^^ s.readSrc src
        f := s.withFlags (decide ((s.a ^^^ s.readSrc src).toNat = 0)) false false false
        pc := s.pc + BitVec.ofNat 16 (Instr.alu .xor src).length } ∧
    exec (Instr.alu .or src) s = .next
      { s with
        a := s.a ||| s.readSrc src
        f := s.withFlags (decide ((s.a ||| s.readSrc src).toNat = 0)) false false false
        pc := s.pc + BitVec.ofNat 16 (Instr.alu .or src).length }

/-- CP is 0xB8 + r, 0xBE or 0xFE d8. For every source and state: only F and PC change; Z if A equals the operand; N = 1; H if the
low nibble of A is below that of the operand; CY if A is below the operand; and F is what SUB with the same operand leaves.
(R138) -/
def Obligations.CompareResult : Prop :=
  (∀ r : Reg8, (Instr.alu .cp (.reg r)).encode = [BitVec.ofNat 8 (0xB8 + r.field)]) ∧
  (Instr.alu .cp .atHL).encode = [0xBE#8] ∧ (∀ v : Byte, (Instr.alu .cp (.imm v)).encode = [0xFE#8, v]) ∧
  ∀ (src : Src8) (s : State),
    exec (Instr.alu .cp src) s = .next
      { s with
        f := s.withFlags (decide (s.a = s.readSrc src)) true (decide (s.a.toNat % 16 < (s.readSrc src).toNat % 16))
          (decide (s.a.toNat < (s.readSrc src).toNat))
        pc := s.pc + BitVec.ofNat 16 (Instr.alu .cp src).length } ∧
    (∃ t u : State, exec (Instr.alu .cp src) s = .next t ∧ exec (Instr.alu .sub src) s = .next u ∧ t.f = u.f)

/-- For every state: CPL (0x2F) writes 0xFF - A and sets N and H, keeping Z and CY; SCF (0x37) sets CY and clears N and H; CCF
(0x3F) inverts CY and clears N and H; Z is kept, and nothing else but PC changes. (R140, R141, R142) -/
def Obligations.CplScfCcfResults : Prop :=
  Instr.cpl.encode = [0x2F#8] ∧ Instr.scf.encode = [0x37#8] ∧ Instr.ccf.encode = [0x3F#8] ∧
  ∀ s : State,
    exec .cpl s = .next
      { s with a := BitVec.ofNat 8 (0xFF - s.a.toNat), f := s.withFlags (s.flag .z) true true (s.flag .cy), pc := s.pc + 1#16 } ∧
    exec .scf s = .next { s with f := s.withFlags (s.flag .z) false false true, pc := s.pc + 1#16 } ∧
    exec .ccf s = .next { s with f := s.withFlags (s.flag .z) false false (!s.flag .cy), pc := s.pc + 1#16 }

/-- For every rr of BC, DE, HL, SP and state: ADD HL,rr (0x09 + 16rr) writes HL + rr mod 2^16; N = 0; H if the sum of bits 11 to 0
exceeds 0xFFF; CY if the sum exceeds 0xFFFF; Z is kept; nothing else but PC changes. (R143) -/
def Obligations.AddHLResult : Prop :=
  ∀ (p : Pair) (s : State),
    (Instr.addHL p).encode = [BitVec.ofNat 8 (0x09 + 16 * p.field)] ∧
    exec (Instr.addHL p) s = .next
      { s.writeHL (BitVec.ofNat 16 (s.hl.toNat + (s.readPair p).toNat)) with
        f := s.withFlags (s.flag .z) false (decide (s.hl.toNat % 0x1000 + (s.readPair p).toNat % 0x1000 > 0xFFF))
          (decide (s.hl.toNat + (s.readPair p).toNat > 0xFFFF))
        pc := s.pc + 1#16 }

/-- For every e8 and state: ADD SP,e8 (0xE8) writes SP, and LD HL,SP+e8 (0xF8) writes HL and keeps SP, with SP plus e8 read as a
signed byte, mod 2^16; Z = 0, N = 0; H if the low nibbles of SP and of the byte e8 sum above 15; CY if the low byte of SP and
the byte e8 sum above 255; nothing else but PC, which moves by 2, changes. (R144, R182) -/
def Obligations.AddSPAndLdHLSPResults : Prop :=
  ∀ (e : Byte) (s : State),
    (Instr.addSPE8 e).encode = [0xE8#8, e] ∧ (Instr.ldHLSPE8 e).encode = [0xF8#8, e] ∧
    exec (.addSPE8 e) s = .next
      { s with
        sp := BitVec.ofInt 16 (s.sp.toNat + e.toInt)
        f := s.withFlags false false (decide (s.sp.toNat % 16 + e.toNat % 16 > 0xF))
          (decide (s.sp.toNat % 256 + e.toNat > 0xFF))
        pc := s.pc + 2#16 } ∧
    exec (.ldHLSPE8 e) s = .next
      { s.writeHL (BitVec.ofInt 16 (s.sp.toNat + e.toInt)) with
        f := s.withFlags false false (decide (s.sp.toNat % 16 + e.toNat % 16 > 0xF))
          (decide (s.sp.toNat % 256 + e.toNat > 0xFF))
        pc := s.pc + 2#16 }

/-- For every state: under nop only PC moves; under fault only the mark is set; under lr35902 after an addition 6 is added if H or
the low digit is above 9 and 0x60 if CY or A is above 0x99, which then sets CY, and after a subtraction 6 is taken off if H and
0x60 if CY, CY kept; the result is mod 2^8, Z is written from it, H is cleared, N is kept; nothing else but PC changes. (R145) -/
def Obligations.DaaResult : Prop :=
  Instr.daa.encode = [0x27#8] ∧
  ∀ s : State,
    (s.cfg.daa = .nop → exec .daa s = .next { s with pc := s.pc + 1#16 }) ∧
    (s.cfg.daa = .fault → exec .daa s = .next { s with faultMark := some (.unimplementedOpcode 0x27#8) }) ∧
    (s.cfg.daa = .lr35902 → s.flag .n = false →
      exec .daa s = .next
        (let res := s.a.toNat + (if s.flag .h = true ∨ s.a.toNat % 16 > 0x9 then 0x06 else 0) +
          (if s.flag .cy = true ∨ s.a.toNat > 0x99 then 0x60 else 0)
        { s with
          a := BitVec.ofNat 8 res
          f := s.withFlags (decide (res % 256 = 0)) false false (s.flag .cy || decide (s.a.toNat > 0x99))
          pc := s.pc + 1#16 })) ∧
    (s.cfg.daa = .lr35902 → s.flag .n = true →
      exec .daa s = .next
        (let res : Int := s.a.toNat - (if s.flag .h = true then 0x06 else 0) - (if s.flag .cy = true then 0x60 else 0)
        { s with
          a := BitVec.ofInt 8 res
          f := s.withFlags (decide (res % 256 = 0)) true false (s.flag .cy)
          pc := s.pc + 1#16 }))

/-- For all registers r, r' of B, C, D, E, H, L, A, every byte and state: LD r,r' (0x40 + 8r + r') copies r' to r, LD r,(HL) (0x46 +
8r) loads the byte at HL, read before r is written, LD r,d8 (0x06 + 8r) loads the immediate; no flag, no other half and no byte
of memory changes. (R160, R161, R163) -/
def Obligations.LoadsIntoARegister : Prop :=
  ∀ (r : Reg8) (s : State),
    (∀ r' : Reg8, (Instr.ldReg r (.reg r')).encode = [BitVec.ofNat 8 (0x40 + 8 * r.field + r'.field)] ∧
      exec (Instr.ldReg r (.reg r')) s = .next { s.writeReg r (s.readReg r') with pc := s.pc + 1#16 }) ∧
    (Instr.ldReg r .atHL).encode = [BitVec.ofNat 8 (0x46 + 8 * r.field)] ∧
    exec (Instr.ldReg r .atHL) s = .next { s.writeReg r (s.memRead s.hl) with pc := s.pc + 1#16 } ∧
    (∀ v : Byte, (Instr.ldReg r (.imm v)).encode = [BitVec.ofNat 8 (0x06 + 8 * r.field), v] ∧
      exec (Instr.ldReg r (.imm v)) s = .next { s.writeReg r v with pc := s.pc + 2#16 })

/-- For every register r, byte and state: LD (HL),r (0x70 + r) stores r and LD (HL),d8 (0x36) the immediate at the address in HL, or
sends it to the sink where HL is 0xFF01; every other byte of memory, every register but PC, and every flag is unchanged. (R162,
R164) -/
def Obligations.StoresAtHL : Prop :=
  (∀ (r : Reg8) (s : State),
    (Instr.stHL r).encode = [BitVec.ofNat 8 (0x70 + r.field)] ∧
    ∃ t : State, exec (Instr.stHL r) s = .next t ∧ StoresBytes s t [(s.hl, s.readReg r)] ∧
      SameOutsideMemory { s with pc := s.pc + 1#16 } t) ∧
  (∀ (v : Byte) (s : State),
    (Instr.ldAtHLD8 v).encode = [0x36#8, v] ∧
    ∃ t : State, exec (.ldAtHLD8 v) s = .next t ∧ StoresBytes s t [(s.hl, v)] ∧
      SameOutsideMemory { s with pc := s.pc + 2#16 } t)

/-- For every state and operand, each of the seven forms stores A at its address (BC, DE, HL, 0xFF00 + a8, 0xFF00 + C, a16) or sends
it to the sink where that is 0xFF01; (HL+) and (HL-) then move HL by 1 mod 2^16; every other byte of memory, every register but
PC (and HL for those two), and every flag is unchanged. (R165, R166, R169, R170, R173, R175, R177) -/
def Obligations.AccumulatorStores : Prop :=
  ∀ (n : Byte) (a : Word) (s : State),
    ((Instr.ldAtBCA).encode = [0x02#8] ∧ ∃ t : State, exec (.ldAtBCA) s = .next t ∧ StoresBytes s t [(s.bc, s.a)] ∧
      SameOutsideMemory { s with pc := s.pc + 1#16 } t) ∧
    ((Instr.ldAtDEA).encode = [0x12#8] ∧ ∃ t : State, exec (.ldAtDEA) s = .next t ∧ StoresBytes s t [(s.de, s.a)] ∧
      SameOutsideMemory { s with pc := s.pc + 1#16 } t) ∧
    ((Instr.ldAtHLIncA).encode = [0x22#8] ∧ ∃ t : State, exec (.ldAtHLIncA) s = .next t ∧ StoresBytes s t [(s.hl, s.a)] ∧
      SameOutsideMemory { s.writeHL (BitVec.ofNat 16 (s.hl.toNat + 1)) with pc := s.pc + 1#16 } t) ∧
    ((Instr.ldAtHLDecA).encode = [0x32#8] ∧ ∃ t : State, exec (.ldAtHLDecA) s = .next t ∧ StoresBytes s t [(s.hl, s.a)] ∧
      SameOutsideMemory { s.writeHL (BitVec.ofInt 16 (s.hl.toNat - 1)) with pc := s.pc + 1#16 } t) ∧
    ((Instr.ldhAtA8A n).encode = [0xE0#8, n] ∧ ∃ t : State, exec (.ldhAtA8A n) s = .next t ∧ StoresBytes s t [(BitVec.ofNat 16 (0xFF00 + n.toNat), s.a)] ∧
      SameOutsideMemory { s with pc := s.pc + 2#16 } t) ∧
    ((Instr.ldAtCA).encode = [0xE2#8] ∧ ∃ t : State, exec (.ldAtCA) s = .next t ∧ StoresBytes s t [(BitVec.ofNat 16 (0xFF00 + s.c.toNat), s.a)] ∧
      SameOutsideMemory { s with pc := s.pc + 1#16 } t) ∧
    ((Instr.ldAtA16A a).encode = [0xEA#8, a.extractLsb' 0 8, a.extractLsb' 8 8] ∧ ∃ t : State, exec (.ldAtA16A a) s = .next t ∧ StoresBytes s t [(a, s.a)] ∧
      SameOutsideMemory { s with pc := s.pc + 3#16 } t)

/-- For every state and operand, each of the seven forms loads A with the byte at its address, at 0xFF01 the stored byte; (HL+) and
(HL-) then move HL by 1 mod 2^16; no byte of memory, no flag and no other register but PC changes. (R167, R168, R171, R172,
R174, R176, R178) -/
def Obligations.AccumulatorLoads : Prop :=
  ∀ (n : Byte) (a : Word) (s : State),
    ((Instr.ldAAtBC).encode = [0x0A#8] ∧
      exec (.ldAAtBC) s = .next { s with a := s.memRead (s.bc), pc := s.pc + 1#16 }) ∧
    ((Instr.ldAAtDE).encode = [0x1A#8] ∧
      exec (.ldAAtDE) s = .next { s with a := s.memRead (s.de), pc := s.pc + 1#16 }) ∧
    ((Instr.ldAAtHLInc).encode = [0x2A#8] ∧
      exec (.ldAAtHLInc) s = .next { s.writeHL (BitVec.ofNat 16 (s.hl.toNat + 1)) with a := s.memRead (s.hl), pc := s.pc + 1#16 }) ∧
    ((Instr.ldAAtHLDec).encode = [0x3A#8] ∧
      exec (.ldAAtHLDec) s = .next { s.writeHL (BitVec.ofInt 16 (s.hl.toNat - 1)) with a := s.memRead (s.hl), pc := s.pc + 1#16 }) ∧
    ((Instr.ldhAAtA8 n).encode = [0xF0#8, n] ∧
      exec (.ldhAAtA8 n) s = .next { s with a := s.memRead (BitVec.ofNat 16 (0xFF00 + n.toNat)), pc := s.pc + 2#16 }) ∧
    ((Instr.ldAAtC).encode = [0xF2#8] ∧
      exec (.ldAAtC) s = .next { s with a := s.memRead (BitVec.ofNat 16 (0xFF00 + s.c.toNat)), pc := s.pc + 1#16 }) ∧
    ((Instr.ldAAtA16 a).encode = [0xFA#8, a.extractLsb' 0 8, a.extractLsb' 8 8] ∧
      exec (.ldAAtA16 a) s = .next { s with a := s.memRead (a), pc := s.pc + 3#16 })

/-- For every rr of BC, DE, HL, SP, every d16 and state: LD rr,d16 (0x01 + 16rr, low byte first) writes the pair, the first
immediate byte to the low half; LD SP,HL (0xF9) copies HL to SP; no flag and no byte of memory changes. (R179, R181) -/
def Obligations.SixteenBitLoads : Prop :=
  (∀ (p : Pair) (v : Word) (s : State),
    (Instr.ldPair p v).encode = [BitVec.ofNat 8 (0x01 + 16 * p.field), v.extractLsb' 0 8, v.extractLsb' 8 8] ∧
    exec (Instr.ldPair p v) s = .next { s.writePair p v with pc := s.pc + 3#16 }) ∧
  Instr.ldSPHL.encode = [0xF9#8] ∧
  (∀ s : State, exec .ldSPHL s = .next { s with sp := s.hl, pc := s.pc + 1#16 })

/-- For every a16 and state: LD (a16),SP (0x08, low byte first) stores bits 7 to 0 of SP at a16 and bits 15 to 8 at a16 + 1 mod
2^16, the one at 0xFF01 going to the sink; every other byte of memory and every register but PC is unchanged. (R180) -/
def Obligations.StoreOfSP : Prop :=
  ∀ (a : Word) (s : State),
    (Instr.ldAtA16SP a).encode = [0x08#8, a.extractLsb' 0 8, a.extractLsb' 8 8] ∧
    ∃ t : State, exec (.ldAtA16SP a) s = .next t ∧
      StoresBytes s t [(a, s.sp.extractLsb' 0 8), (a + 1#16, s.sp.extractLsb' 8 8)] ∧
      SameOutsideMemory { s with pc := s.pc + 3#16 } t

/-- For BC, DE, HL and AF and every state: PUSH stores the high half at SP-1 and the low half at SP-2, mod 2^16, the one at 0xFF01
going to the sink, and moves SP down by 2; every other byte of memory, every other register but PC, and every flag is unchanged.
(R183, R185) -/
def Obligations.PushResult : Prop :=
  ∀ s : State,
    (Instr.pushBC.encode = [0xC5#8] ∧ ∃ t : State, exec .pushBC s = .next t ∧
      StoresBytes s t [(s.sp - 1#16, s.b), (s.sp - 2#16, s.c)] ∧
      SameOutsideMemory { s with sp := s.sp - 2#16, pc := s.pc + 1#16 } t) ∧
    (Instr.pushDE.encode = [0xD5#8] ∧ ∃ t : State, exec .pushDE s = .next t ∧
      StoresBytes s t [(s.sp - 1#16, s.d), (s.sp - 2#16, s.e)] ∧
      SameOutsideMemory { s with sp := s.sp - 2#16, pc := s.pc + 1#16 } t) ∧
    (Instr.pushHL.encode = [0xE5#8] ∧ ∃ t : State, exec .pushHL s = .next t ∧
      StoresBytes s t [(s.sp - 1#16, s.h), (s.sp - 2#16, s.l)] ∧
      SameOutsideMemory { s with sp := s.sp - 2#16, pc := s.pc + 1#16 } t) ∧
    (Instr.pushAF.encode = [0xF5#8] ∧ ∃ t : State, exec .pushAF s = .next t ∧
      StoresBytes s t [(s.sp - 1#16, s.a), (s.sp - 2#16, s.f)] ∧
      SameOutsideMemory { s with sp := s.sp - 2#16, pc := s.pc + 1#16 } t)

/-- For BC, DE, HL and AF and every state: POP loads the low half from SP and the high half from SP+1 mod 2^16 and moves SP up by 2;
for AF the low half is F with bits 3 to 0 forced to zero; no byte of memory, no other register but PC, and, AF apart, no flag
changes. That POP AF clears bits 3 to 0 is the spec's own derivation from R184 and R27. (43_load_store.md R184, 43_load_store.md
R186) -/
def Obligations.PopResult : Prop :=
  Instr.popBC.encode = [0xC1#8] ∧ Instr.popDE.encode = [0xD1#8] ∧ Instr.popHL.encode = [0xE1#8] ∧
  Instr.popAF.encode = [0xF1#8] ∧
  ∀ s : State,
    exec .popBC s = .next { s with b := s.memRead (s.sp + 1#16), c := s.memRead s.sp, sp := s.sp + 2#16, pc := s.pc + 1#16 } ∧
    exec .popDE s = .next { s with d := s.memRead (s.sp + 1#16), e := s.memRead s.sp, sp := s.sp + 2#16, pc := s.pc + 1#16 } ∧
    exec .popHL s = .next { s with h := s.memRead (s.sp + 1#16), l := s.memRead s.sp, sp := s.sp + 2#16, pc := s.pc + 1#16 } ∧
    exec .popAF s = .next
      { s with
        a := s.memRead (s.sp + 1#16)
        f := BitVec.ofNat 8 ((s.memRead s.sp).toNat / 16 * 0x10)
        sp := s.sp + 2#16
        pc := s.pc + 1#16 }

/-- For every pushed pair q and popped pair p and every state whose SP is neither 0xFF02 nor 0xFF03: PUSH q then POP p leaves SP as
it was and p holding what q held, with bits 3 to 0 of F cleared where p is AF. The stack may wrap. (95_test_vectors.md S2,
90_conflicts.md C7, 43_load_store.md R185) -/
def Obligations.PushThenPopRoundTrip : Prop :=
  ∀ (q p : StackPair) (s : State), s.sp ≠ 0xFF02#16 → s.sp ≠ 0xFF03#16 →
    ∃ t u : State, exec (Instr.push q) s = .next t ∧ exec (Instr.pop p) t = .next u ∧ u.sp = s.sp ∧
      u.readStackPair p = if p = .af then s.readStackPair q &&& 0xFFF0#16 else s.readStackPair q

/-- For every operand and state: JR e8 (0x18) sets PC to the address after the instruction plus e8 read as a signed byte, mod 2^16;
JP a16 (0xC3, low byte first) sets it to a16; JP HL (0xE9) to HL, with no memory read; no register, flag or byte of memory
changes. (R201, R203, R205) -/
def Obligations.UnconditionalJumps : Prop :=
  (∀ (e : Byte) (s : State), (Instr.jrE8 e).encode = [0x18#8, e] ∧
    exec (.jrE8 e) s = .next { s with pc := BitVec.ofInt 16 (s.pc.toNat + 2 + e.toInt) }) ∧
  (∀ (a : Word) (s : State), (Instr.jpA16 a).encode = [0xC3#8, a.extractLsb' 0 8, a.extractLsb' 8 8] ∧
    exec (.jpA16 a) s = .next { s with pc := a }) ∧
  (∀ s : State, Instr.jpHL.encode = [0xE9#8] ∧ exec .jpHL s = .next { s with pc := s.hl })

/-- NZ, Z, NC, C hold when Z = 0, Z = 1, CY = 0, CY = 1. For each condition, operand and state: JR cc,e8 (0x20 + 8cc) and JP cc,a16
(0xC2 + 8cc) set PC to the target if the condition holds, and otherwise past the whole instruction, 2 or 3 bytes; nothing else
changes. (R200, R202, R204) -/
def Obligations.ConditionalJumps : Prop :=
  (∀ s : State, s.cond .nz = !s.flag .z ∧ s.cond .z = s.flag .z ∧ s.cond .nc = !s.flag .cy ∧ s.cond .c = s.flag .cy) ∧
  (∀ (cc : Cond) (e : Byte) (s : State), (Instr.jrIf cc e).encode = [BitVec.ofNat 8 (0x20 + 8 * cc.field), e] ∧
    (s.cond cc = true → exec (Instr.jrIf cc e) s = .next { s with pc := BitVec.ofInt 16 (s.pc.toNat + 2 + e.toInt) }) ∧
    (s.cond cc = false → exec (Instr.jrIf cc e) s = .next { s with pc := s.pc + 2#16 })) ∧
  (∀ (cc : Cond) (a : Word) (s : State),
    (Instr.jpIf cc a).encode = [BitVec.ofNat 8 (0xC2 + 8 * cc.field), a.extractLsb' 0 8, a.extractLsb' 8 8] ∧
    (s.cond cc = true → exec (Instr.jpIf cc a) s = .next { s with pc := a }) ∧
    (s.cond cc = false → exec (Instr.jpIf cc a) s = .next { s with pc := s.pc + 3#16 }))

/-- For every a16 and state: CALL a16 (0xCD), and CALL cc,a16 (0xC4 + 8cc) when its condition holds, stores the high byte of PC + 3
at SP-1 and the low byte at SP-2, the one at 0xFF01 going to the sink, moves SP down by 2 and sets PC to a16; a CALL cc not
taken only moves PC by 3. No other byte of memory, no other register and no flag changes. (R206, R207) -/
def Obligations.Calls : Prop :=
  (∀ (a : Word) (s : State), (Instr.callA16 a).encode = [0xCD#8, a.extractLsb' 0 8, a.extractLsb' 8 8] ∧
    ∃ t : State, exec (.callA16 a) s = .next t ∧
      StoresBytes s t [(s.sp - 1#16, (s.pc + 3#16).extractLsb' 8 8), (s.sp - 2#16, (s.pc + 3#16).extractLsb' 0 8)] ∧
      SameOutsideMemory { s with sp := s.sp - 2#16, pc := a } t) ∧
  (∀ (cc : Cond) (a : Word) (s : State),
    (Instr.callIf cc a).encode = [BitVec.ofNat 8 (0xC4 + 8 * cc.field), a.extractLsb' 0 8, a.extractLsb' 8 8] ∧
    (s.cond cc = true → ∃ t : State, exec (Instr.callIf cc a) s = .next t ∧
      StoresBytes s t [(s.sp - 1#16, (s.pc + 3#16).extractLsb' 8 8), (s.sp - 2#16, (s.pc + 3#16).extractLsb' 0 8)] ∧
      SameOutsideMemory { s with sp := s.sp - 2#16, pc := a } t) ∧
    (s.cond cc = false → exec (Instr.callIf cc a) s = .next { s with pc := s.pc + 3#16 }))

/-- For each t of 0 to 7 and every state: RST t (0xC7 + 8t) stores the high byte of PC + 1 at SP-1 and the low byte at SP-2, the one
at 0xFF01 going to the sink, moves SP down by 2 and sets PC to 8t. No other byte of memory, no other register and no flag
changes. (R211) -/
def Obligations.Restarts : Prop :=
  ∀ (t : RstVec) (s : State), (Instr.rst t).encode = [BitVec.ofNat 8 (0xC7 + 8 * t.field)] ∧
    ∃ u : State, exec (Instr.rst t) s = .next u ∧
      StoresBytes s u [(s.sp - 1#16, (s.pc + 1#16).extractLsb' 8 8), (s.sp - 2#16, (s.pc + 1#16).extractLsb' 0 8)] ∧
      SameOutsideMemory { s with sp := s.sp - 2#16, pc := BitVec.ofNat 16 (8 * t.field) } u

/-- For every state: RET (0xC9), RET cc (0xC0 + 8cc) when its condition holds, and RETI (0xD9) under RETI_POLICY = ret set PC to the
byte at SP+1 (high) and the byte at SP (low) and move SP up by 2; RET cc not taken, and RETI under nop, only move PC by 1. No
byte of memory, no other register and no flag changes. (R208, R209, R210) -/
def Obligations.Returns : Prop :=
  Instr.ret.encode = [0xC9#8] ∧ Instr.reti.encode = [0xD9#8] ∧
  ∀ s : State,
    exec .ret s = .next
      { s with sp := s.sp + 2#16, pc := joinBytes (s.memRead (s.sp + 1#16)) (s.memRead s.sp) } ∧
    (∀ cc : Cond, (Instr.retIf cc).encode = [BitVec.ofNat 8 (0xC0 + 8 * cc.field)] ∧
      (s.cond cc = true → exec (Instr.retIf cc) s = .next
        { s with sp := s.sp + 2#16, pc := joinBytes (s.memRead (s.sp + 1#16)) (s.memRead s.sp) }) ∧
      (s.cond cc = false → exec (Instr.retIf cc) s = .next { s with pc := s.pc + 1#16 })) ∧
    (s.cfg.reti = .nop → exec .reti s = .next { s with pc := s.pc + 1#16 }) ∧
    (s.cfg.reti = .ret → exec .reti s = .next
      { s with sp := s.sp + 2#16, pc := joinBytes (s.memRead (s.sp + 1#16)) (s.memRead s.sp) })

/-- For every state: RLCA (0x07) and RRCA (0x0F) rotate A by one place; RLA (0x17) and RRA (0x1F) shift A by one place and move the
old CY in; CY is the bit moved out; under preserve Z, N, H are kept, under lr35902 cleared; nothing else but PC changes. (R220,
R221, R222, R223) -/
def Obligations.Rotates : Prop :=
  Instr.rlca.encode = [0x07#8] ∧ Instr.rrca.encode = [0x0F#8] ∧ Instr.rla.encode = [0x17#8] ∧ Instr.rra.encode = [0x1F#8] ∧
  ∀ s : State,
    exec .rlca s = .next
      { s with
        a := s.a.rotateLeft 1
        f := if s.cfg.rotaFlags = .lr35902 then s.withFlags false false false (s.a.getLsbD 7)
          else s.withFlags (s.flag .z) (s.flag .n) (s.flag .h) (s.a.getLsbD 7)
        pc := s.pc + 1#16 } ∧
    exec .rrca s = .next
      { s with
        a := s.a.rotateRight 1
        f := if s.cfg.rotaFlags = .lr35902 then s.withFlags false false false (s.a.getLsbD 0)
          else s.withFlags (s.flag .z) (s.flag .n) (s.flag .h) (s.a.getLsbD 0)
        pc := s.pc + 1#16 } ∧
    exec .rla s = .next
      { s with
        a := s.a <<< 1 ||| (if s.flag .cy then 0x01#8 else 0x00#8)
        f := if s.cfg.rotaFlags = .lr35902 then s.withFlags false false false (s.a.getLsbD 7)
          else s.withFlags (s.flag .z) (s.flag .n) (s.flag .h) (s.a.getLsbD 7)
        pc := s.pc + 1#16 } ∧
    exec .rra s = .next
      { s with
        a := s.a >>> 1 ||| (if s.flag .cy then 0x80#8 else 0x00#8)
        f := if s.cfg.rotaFlags = .lr35902 then s.withFlags false false false (s.a.getLsbD 0)
          else s.withFlags (s.flag .z) (s.flag .n) (s.flag .h) (s.a.getLsbD 0)
        pc := s.pc + 1#16 }

/-- For every register r of B, C, D, E, H, L, A and every state: 256 executions of INC r leave r as it was, and among the states
after 1 to 256 executions exactly one has Z = 1. (95_test_vectors.md S1, 41_inc_dec.md R120) -/
def Obligations.IncTwoHundredFiftySixTimes : Prop :=
  ∀ (r : Reg8) (s : State),
    (∃ t : State, execTimes (Instr.incReg r) 256 s = .next t ∧ t.readReg r = s.readReg r) ∧
    ∃ k : Nat, (1 ≤ k ∧ k ≤ 256 ∧ ∃ t : State, execTimes (Instr.incReg r) k s = .next t ∧ t.flag .z = true) ∧
      ∀ j : Nat, 1 ≤ j → j ≤ 256 → (∃ t : State, execTimes (Instr.incReg r) j s = .next t ∧ t.flag .z = true) → j = k

/-- For every state, under either ROTA_FLAG_POLICY: eight executions of RLCA, or of RRCA, leave A as it was; nine of RLA, or of RRA,
leave A and CY as they were. (45_rotate.md R220, 45_rotate.md R221, 45_rotate.md R222, 45_rotate.md R223) -/
def Obligations.RotatesReturn : Prop :=
  ∀ s : State,
    (∃ t : State, execTimes .rlca 8 s = .next t ∧ t.a = s.a) ∧
    (∃ t : State, execTimes .rrca 8 s = .next t ∧ t.a = s.a) ∧
    (∃ t : State, execTimes .rla 9 s = .next t ∧ t.a = s.a ∧ t.flag .cy = s.flag .cy) ∧
    (∃ t : State, execTimes .rra 9 s = .next t ∧ t.a = s.a ∧ t.flag .cy = s.flag .cy)

/-- For every state with no fault mark whose PC addresses the bytes 18 FE (JR -2): the step gives the same state.
(44_control_flow.md R201, 70_reset_and_hazards.md R258) -/
def Obligations.EndMarkerIsAFixedPoint : Prop :=
  ∀ s : State, s.faultMark = none → s.atMarker → step s = .next s
end

