-- ==== Sys2Proof/Laws/State.lean ====
section
/-! SUPPORT. For each named update of the state, the fields it leaves alone, one lemma per field, and what it leaves in the fields it
writes. -/

namespace Sys2Proof.Machine

/-! ### `advance` -/

@[simp] theorem State.advance_a (s : State) (n : Nat) : (s.advance n).a = s.a := rfl
@[simp] theorem State.advance_f (s : State) (n : Nat) : (s.advance n).f = s.f := rfl
@[simp] theorem State.advance_b (s : State) (n : Nat) : (s.advance n).b = s.b := rfl
@[simp] theorem State.advance_c (s : State) (n : Nat) : (s.advance n).c = s.c := rfl
@[simp] theorem State.advance_d (s : State) (n : Nat) : (s.advance n).d = s.d := rfl
@[simp] theorem State.advance_e (s : State) (n : Nat) : (s.advance n).e = s.e := rfl
@[simp] theorem State.advance_h (s : State) (n : Nat) : (s.advance n).h = s.h := rfl
@[simp] theorem State.advance_l (s : State) (n : Nat) : (s.advance n).l = s.l := rfl
@[simp] theorem State.advance_sp (s : State) (n : Nat) : (s.advance n).sp = s.sp := rfl
@[simp] theorem State.advance_mem (s : State) (n : Nat) : (s.advance n).mem = s.mem := rfl
@[simp] theorem State.advance_sink (s : State) (n : Nat) : (s.advance n).sink = s.sink := rfl
@[simp] theorem State.advance_faultMark (s : State) (n : Nat) : (s.advance n).faultMark = s.faultMark := rfl
@[simp] theorem State.advance_cfg (s : State) (n : Nat) : (s.advance n).cfg = s.cfg := rfl

/-! ### `jump` -/

@[simp] theorem State.jump_a (s : State) (t : Word) : (s.jump t).a = s.a := rfl
@[simp] theorem State.jump_f (s : State) (t : Word) : (s.jump t).f = s.f := rfl
@[simp] theorem State.jump_b (s : State) (t : Word) : (s.jump t).b = s.b := rfl
@[simp] theorem State.jump_c (s : State) (t : Word) : (s.jump t).c = s.c := rfl
@[simp] theorem State.jump_d (s : State) (t : Word) : (s.jump t).d = s.d := rfl
@[simp] theorem State.jump_e (s : State) (t : Word) : (s.jump t).e = s.e := rfl
@[simp] theorem State.jump_h (s : State) (t : Word) : (s.jump t).h = s.h := rfl
@[simp] theorem State.jump_l (s : State) (t : Word) : (s.jump t).l = s.l := rfl
@[simp] theorem State.jump_sp (s : State) (t : Word) : (s.jump t).sp = s.sp := rfl
@[simp] theorem State.jump_mem (s : State) (t : Word) : (s.jump t).mem = s.mem := rfl
@[simp] theorem State.jump_sink (s : State) (t : Word) : (s.jump t).sink = s.sink := rfl
@[simp] theorem State.jump_faultMark (s : State) (t : Word) : (s.jump t).faultMark = s.faultMark := rfl
@[simp] theorem State.jump_cfg (s : State) (t : Word) : (s.jump t).cfg = s.cfg := rfl

/-! ### `raise` -/

@[simp] theorem State.raise_a (s : State) (r : Fault) : (s.raise r).a = s.a := rfl
@[simp] theorem State.raise_f (s : State) (r : Fault) : (s.raise r).f = s.f := rfl
@[simp] theorem State.raise_b (s : State) (r : Fault) : (s.raise r).b = s.b := rfl
@[simp] theorem State.raise_c (s : State) (r : Fault) : (s.raise r).c = s.c := rfl
@[simp] theorem State.raise_d (s : State) (r : Fault) : (s.raise r).d = s.d := rfl
@[simp] theorem State.raise_e (s : State) (r : Fault) : (s.raise r).e = s.e := rfl
@[simp] theorem State.raise_h (s : State) (r : Fault) : (s.raise r).h = s.h := rfl
@[simp] theorem State.raise_l (s : State) (r : Fault) : (s.raise r).l = s.l := rfl
@[simp] theorem State.raise_sp (s : State) (r : Fault) : (s.raise r).sp = s.sp := rfl
@[simp] theorem State.raise_pc (s : State) (r : Fault) : (s.raise r).pc = s.pc := rfl
@[simp] theorem State.raise_mem (s : State) (r : Fault) : (s.raise r).mem = s.mem := rfl
@[simp] theorem State.raise_sink (s : State) (r : Fault) : (s.raise r).sink = s.sink := rfl
@[simp] theorem State.raise_cfg (s : State) (r : Fault) : (s.raise r).cfg = s.cfg := rfl

/-! ### `memWrite` -/

@[simp] theorem State.memWrite_a (s : State) (x : Word) (v : Byte) : (s.memWrite x v).a = s.a := by unfold State.memWrite; split <;> rfl
@[simp] theorem State.memWrite_f (s : State) (x : Word) (v : Byte) : (s.memWrite x v).f = s.f := by unfold State.memWrite; split <;> rfl
@[simp] theorem State.memWrite_b (s : State) (x : Word) (v : Byte) : (s.memWrite x v).b = s.b := by unfold State.memWrite; split <;> rfl
@[simp] theorem State.memWrite_c (s : State) (x : Word) (v : Byte) : (s.memWrite x v).c = s.c := by unfold State.memWrite; split <;> rfl
@[simp] theorem State.memWrite_d (s : State) (x : Word) (v : Byte) : (s.memWrite x v).d = s.d := by unfold State.memWrite; split <;> rfl
@[simp] theorem State.memWrite_e (s : State) (x : Word) (v : Byte) : (s.memWrite x v).e = s.e := by unfold State.memWrite; split <;> rfl
@[simp] theorem State.memWrite_h (s : State) (x : Word) (v : Byte) : (s.memWrite x v).h = s.h := by unfold State.memWrite; split <;> rfl
@[simp] theorem State.memWrite_l (s : State) (x : Word) (v : Byte) : (s.memWrite x v).l = s.l := by unfold State.memWrite; split <;> rfl
@[simp] theorem State.memWrite_sp (s : State) (x : Word) (v : Byte) : (s.memWrite x v).sp = s.sp := by unfold State.memWrite; split <;> rfl
@[simp] theorem State.memWrite_pc (s : State) (x : Word) (v : Byte) : (s.memWrite x v).pc = s.pc := by unfold State.memWrite; split <;> rfl
@[simp] theorem State.memWrite_faultMark (s : State) (x : Word) (v : Byte) : (s.memWrite x v).faultMark = s.faultMark := by unfold State.memWrite; split <;> rfl
@[simp] theorem State.memWrite_cfg (s : State) (x : Word) (v : Byte) : (s.memWrite x v).cfg = s.cfg := by unfold State.memWrite; split <;> rfl

/-! ### `writeReg` -/

@[simp] theorem State.writeReg_f (s : State) (r : Reg8) (v : Byte) : (s.writeReg r v).f = s.f := by cases r <;> rfl
@[simp] theorem State.writeReg_sp (s : State) (r : Reg8) (v : Byte) : (s.writeReg r v).sp = s.sp := by cases r <;> rfl
@[simp] theorem State.writeReg_pc (s : State) (r : Reg8) (v : Byte) : (s.writeReg r v).pc = s.pc := by cases r <;> rfl
@[simp] theorem State.writeReg_mem (s : State) (r : Reg8) (v : Byte) : (s.writeReg r v).mem = s.mem := by cases r <;> rfl
@[simp] theorem State.writeReg_sink (s : State) (r : Reg8) (v : Byte) : (s.writeReg r v).sink = s.sink := by cases r <;> rfl
@[simp] theorem State.writeReg_faultMark (s : State) (r : Reg8) (v : Byte) : (s.writeReg r v).faultMark = s.faultMark := by cases r <;> rfl
@[simp] theorem State.writeReg_cfg (s : State) (r : Reg8) (v : Byte) : (s.writeReg r v).cfg = s.cfg := by cases r <;> rfl

/-! ### `writeF` -/

@[simp] theorem State.writeF_a (s : State) (v : Byte) : (s.writeF v).a = s.a := rfl
@[simp] theorem State.writeF_b (s : State) (v : Byte) : (s.writeF v).b = s.b := rfl
@[simp] theorem State.writeF_c (s : State) (v : Byte) : (s.writeF v).c = s.c := rfl
@[simp] theorem State.writeF_d (s : State) (v : Byte) : (s.writeF v).d = s.d := rfl
@[simp] theorem State.writeF_e (s : State) (v : Byte) : (s.writeF v).e = s.e := rfl
@[simp] theorem State.writeF_h (s : State) (v : Byte) : (s.writeF v).h = s.h := rfl
@[simp] theorem State.writeF_l (s : State) (v : Byte) : (s.writeF v).l = s.l := rfl
@[simp] theorem State.writeF_sp (s : State) (v : Byte) : (s.writeF v).sp = s.sp := rfl
@[simp] theorem State.writeF_pc (s : State) (v : Byte) : (s.writeF v).pc = s.pc := rfl
@[simp] theorem State.writeF_mem (s : State) (v : Byte) : (s.writeF v).mem = s.mem := rfl
@[simp] theorem State.writeF_sink (s : State) (v : Byte) : (s.writeF v).sink = s.sink := rfl
@[simp] theorem State.writeF_faultMark (s : State) (v : Byte) : (s.writeF v).faultMark = s.faultMark := rfl
@[simp] theorem State.writeF_cfg (s : State) (v : Byte) : (s.writeF v).cfg = s.cfg := rfl

/-! ### `writeBC` -/

@[simp] theorem State.writeBC_a (s : State) (v : Word) : (s.writeBC v).a = s.a := rfl
@[simp] theorem State.writeBC_f (s : State) (v : Word) : (s.writeBC v).f = s.f := rfl
@[simp] theorem State.writeBC_d (s : State) (v : Word) : (s.writeBC v).d = s.d := rfl
@[simp] theorem State.writeBC_e (s : State) (v : Word) : (s.writeBC v).e = s.e := rfl
@[simp] theorem State.writeBC_h (s : State) (v : Word) : (s.writeBC v).h = s.h := rfl
@[simp] theorem State.writeBC_l (s : State) (v : Word) : (s.writeBC v).l = s.l := rfl
@[simp] theorem State.writeBC_sp (s : State) (v : Word) : (s.writeBC v).sp = s.sp := rfl
@[simp] theorem State.writeBC_pc (s : State) (v : Word) : (s.writeBC v).pc = s.pc := rfl
@[simp] theorem State.writeBC_mem (s : State) (v : Word) : (s.writeBC v).mem = s.mem := rfl
@[simp] theorem State.writeBC_sink (s : State) (v : Word) : (s.writeBC v).sink = s.sink := rfl
@[simp] theorem State.writeBC_faultMark (s : State) (v : Word) : (s.writeBC v).faultMark = s.faultMark := rfl
@[simp] theorem State.writeBC_cfg (s : State) (v : Word) : (s.writeBC v).cfg = s.cfg := rfl

/-! ### `writeDE` -/

@[simp] theorem State.writeDE_a (s : State) (v : Word) : (s.writeDE v).a = s.a := rfl
@[simp] theorem State.writeDE_f (s : State) (v : Word) : (s.writeDE v).f = s.f := rfl
@[simp] theorem State.writeDE_b (s : State) (v : Word) : (s.writeDE v).b = s.b := rfl
@[simp] theorem State.writeDE_c (s : State) (v : Word) : (s.writeDE v).c = s.c := rfl
@[simp] theorem State.writeDE_h (s : State) (v : Word) : (s.writeDE v).h = s.h := rfl
@[simp] theorem State.writeDE_l (s : State) (v : Word) : (s.writeDE v).l = s.l := rfl
@[simp] theorem State.writeDE_sp (s : State) (v : Word) : (s.writeDE v).sp = s.sp := rfl
@[simp] theorem State.writeDE_pc (s : State) (v : Word) : (s.writeDE v).pc = s.pc := rfl
@[simp] theorem State.writeDE_mem (s : State) (v : Word) : (s.writeDE v).mem = s.mem := rfl
@[simp] theorem State.writeDE_sink (s : State) (v : Word) : (s.writeDE v).sink = s.sink := rfl
@[simp] theorem State.writeDE_faultMark (s : State) (v : Word) : (s.writeDE v).faultMark = s.faultMark := rfl
@[simp] theorem State.writeDE_cfg (s : State) (v : Word) : (s.writeDE v).cfg = s.cfg := rfl

/-! ### `writeHL` -/

@[simp] theorem State.writeHL_a (s : State) (v : Word) : (s.writeHL v).a = s.a := rfl
@[simp] theorem State.writeHL_f (s : State) (v : Word) : (s.writeHL v).f = s.f := rfl
@[simp] theorem State.writeHL_b (s : State) (v : Word) : (s.writeHL v).b = s.b := rfl
@[simp] theorem State.writeHL_c (s : State) (v : Word) : (s.writeHL v).c = s.c := rfl
@[simp] theorem State.writeHL_d (s : State) (v : Word) : (s.writeHL v).d = s.d := rfl
@[simp] theorem State.writeHL_e (s : State) (v : Word) : (s.writeHL v).e = s.e := rfl
@[simp] theorem State.writeHL_sp (s : State) (v : Word) : (s.writeHL v).sp = s.sp := rfl
@[simp] theorem State.writeHL_pc (s : State) (v : Word) : (s.writeHL v).pc = s.pc := rfl
@[simp] theorem State.writeHL_mem (s : State) (v : Word) : (s.writeHL v).mem = s.mem := rfl
@[simp] theorem State.writeHL_sink (s : State) (v : Word) : (s.writeHL v).sink = s.sink := rfl
@[simp] theorem State.writeHL_faultMark (s : State) (v : Word) : (s.writeHL v).faultMark = s.faultMark := rfl
@[simp] theorem State.writeHL_cfg (s : State) (v : Word) : (s.writeHL v).cfg = s.cfg := rfl

/-! ### `writeAF` -/

@[simp] theorem State.writeAF_b (s : State) (v : Word) : (s.writeAF v).b = s.b := rfl
@[simp] theorem State.writeAF_c (s : State) (v : Word) : (s.writeAF v).c = s.c := rfl
@[simp] theorem State.writeAF_d (s : State) (v : Word) : (s.writeAF v).d = s.d := rfl
@[simp] theorem State.writeAF_e (s : State) (v : Word) : (s.writeAF v).e = s.e := rfl
@[simp] theorem State.writeAF_h (s : State) (v : Word) : (s.writeAF v).h = s.h := rfl
@[simp] theorem State.writeAF_l (s : State) (v : Word) : (s.writeAF v).l = s.l := rfl
@[simp] theorem State.writeAF_sp (s : State) (v : Word) : (s.writeAF v).sp = s.sp := rfl
@[simp] theorem State.writeAF_pc (s : State) (v : Word) : (s.writeAF v).pc = s.pc := rfl
@[simp] theorem State.writeAF_mem (s : State) (v : Word) : (s.writeAF v).mem = s.mem := rfl
@[simp] theorem State.writeAF_sink (s : State) (v : Word) : (s.writeAF v).sink = s.sink := rfl
@[simp] theorem State.writeAF_faultMark (s : State) (v : Word) : (s.writeAF v).faultMark = s.faultMark := rfl
@[simp] theorem State.writeAF_cfg (s : State) (v : Word) : (s.writeAF v).cfg = s.cfg := rfl

/-! ### `writePair` -/

@[simp] theorem State.writePair_a (s : State) (p : Pair) (v : Word) : (s.writePair p v).a = s.a := by cases p <;> rfl
@[simp] theorem State.writePair_f (s : State) (p : Pair) (v : Word) : (s.writePair p v).f = s.f := by cases p <;> rfl
@[simp] theorem State.writePair_pc (s : State) (p : Pair) (v : Word) : (s.writePair p v).pc = s.pc := by cases p <;> rfl
@[simp] theorem State.writePair_mem (s : State) (p : Pair) (v : Word) : (s.writePair p v).mem = s.mem := by cases p <;> rfl
@[simp] theorem State.writePair_sink (s : State) (p : Pair) (v : Word) : (s.writePair p v).sink = s.sink := by cases p <;> rfl
@[simp] theorem State.writePair_faultMark (s : State) (p : Pair) (v : Word) : (s.writePair p v).faultMark = s.faultMark := by cases p <;> rfl
@[simp] theorem State.writePair_cfg (s : State) (p : Pair) (v : Word) : (s.writePair p v).cfg = s.cfg := by cases p <;> rfl

/-! ### `writeStackPair` -/

@[simp] theorem State.writeStackPair_sp (s : State) (q : StackPair) (v : Word) : (s.writeStackPair q v).sp = s.sp := by cases q <;> rfl
@[simp] theorem State.writeStackPair_pc (s : State) (q : StackPair) (v : Word) : (s.writeStackPair q v).pc = s.pc := by cases q <;> rfl
@[simp] theorem State.writeStackPair_mem (s : State) (q : StackPair) (v : Word) : (s.writeStackPair q v).mem = s.mem := by cases q <;> rfl
@[simp] theorem State.writeStackPair_sink (s : State) (q : StackPair) (v : Word) : (s.writeStackPair q v).sink = s.sink := by cases q <;> rfl
@[simp] theorem State.writeStackPair_faultMark (s : State) (q : StackPair) (v : Word) : (s.writeStackPair q v).faultMark = s.faultMark := by cases q <;> rfl
@[simp] theorem State.writeStackPair_cfg (s : State) (q : StackPair) (v : Word) : (s.writeStackPair q v).cfg = s.cfg := by cases q <;> rfl

/-! ### `setFlag` -/

@[simp] theorem State.setFlag_a (s : State) (fl : Flag) (v : Bool) : (s.setFlag fl v).a = s.a := rfl
@[simp] theorem State.setFlag_b (s : State) (fl : Flag) (v : Bool) : (s.setFlag fl v).b = s.b := rfl
@[simp] theorem State.setFlag_c (s : State) (fl : Flag) (v : Bool) : (s.setFlag fl v).c = s.c := rfl
@[simp] theorem State.setFlag_d (s : State) (fl : Flag) (v : Bool) : (s.setFlag fl v).d = s.d := rfl
@[simp] theorem State.setFlag_e (s : State) (fl : Flag) (v : Bool) : (s.setFlag fl v).e = s.e := rfl
@[simp] theorem State.setFlag_h (s : State) (fl : Flag) (v : Bool) : (s.setFlag fl v).h = s.h := rfl
@[simp] theorem State.setFlag_l (s : State) (fl : Flag) (v : Bool) : (s.setFlag fl v).l = s.l := rfl
@[simp] theorem State.setFlag_sp (s : State) (fl : Flag) (v : Bool) : (s.setFlag fl v).sp = s.sp := rfl
@[simp] theorem State.setFlag_pc (s : State) (fl : Flag) (v : Bool) : (s.setFlag fl v).pc = s.pc := rfl
@[simp] theorem State.setFlag_mem (s : State) (fl : Flag) (v : Bool) : (s.setFlag fl v).mem = s.mem := rfl
@[simp] theorem State.setFlag_sink (s : State) (fl : Flag) (v : Bool) : (s.setFlag fl v).sink = s.sink := rfl
@[simp] theorem State.setFlag_faultMark (s : State) (fl : Flag) (v : Bool) : (s.setFlag fl v).faultMark = s.faultMark := rfl
@[simp] theorem State.setFlag_cfg (s : State) (fl : Flag) (v : Bool) : (s.setFlag fl v).cfg = s.cfg := rfl

/-! ### `setFlags` -/

@[simp] theorem State.setFlags_a (s : State) (z n h cy : Bool) : (s.setFlags z n h cy).a = s.a := rfl
@[simp] theorem State.setFlags_b (s : State) (z n h cy : Bool) : (s.setFlags z n h cy).b = s.b := rfl
@[simp] theorem State.setFlags_c (s : State) (z n h cy : Bool) : (s.setFlags z n h cy).c = s.c := rfl
@[simp] theorem State.setFlags_d (s : State) (z n h cy : Bool) : (s.setFlags z n h cy).d = s.d := rfl
@[simp] theorem State.setFlags_e (s : State) (z n h cy : Bool) : (s.setFlags z n h cy).e = s.e := rfl
@[simp] theorem State.setFlags_h (s : State) (z n h cy : Bool) : (s.setFlags z n h cy).h = s.h := rfl
@[simp] theorem State.setFlags_l (s : State) (z n h cy : Bool) : (s.setFlags z n h cy).l = s.l := rfl
@[simp] theorem State.setFlags_sp (s : State) (z n h cy : Bool) : (s.setFlags z n h cy).sp = s.sp := rfl
@[simp] theorem State.setFlags_pc (s : State) (z n h cy : Bool) : (s.setFlags z n h cy).pc = s.pc := rfl
@[simp] theorem State.setFlags_mem (s : State) (z n h cy : Bool) : (s.setFlags z n h cy).mem = s.mem := rfl
@[simp] theorem State.setFlags_sink (s : State) (z n h cy : Bool) : (s.setFlags z n h cy).sink = s.sink := rfl
@[simp] theorem State.setFlags_faultMark (s : State) (z n h cy : Bool) : (s.setFlags z n h cy).faultMark = s.faultMark := rfl
@[simp] theorem State.setFlags_cfg (s : State) (z n h cy : Bool) : (s.setFlags z n h cy).cfg = s.cfg := rfl

/-! ### `incFlags` -/

@[simp] theorem State.incFlags_a (s : State) (old : Byte) : (s.incFlags old).a = s.a := by unfold State.incFlags; split <;> rfl
@[simp] theorem State.incFlags_b (s : State) (old : Byte) : (s.incFlags old).b = s.b := by unfold State.incFlags; split <;> rfl
@[simp] theorem State.incFlags_c (s : State) (old : Byte) : (s.incFlags old).c = s.c := by unfold State.incFlags; split <;> rfl
@[simp] theorem State.incFlags_d (s : State) (old : Byte) : (s.incFlags old).d = s.d := by unfold State.incFlags; split <;> rfl
@[simp] theorem State.incFlags_e (s : State) (old : Byte) : (s.incFlags old).e = s.e := by unfold State.incFlags; split <;> rfl
@[simp] theorem State.incFlags_h (s : State) (old : Byte) : (s.incFlags old).h = s.h := by unfold State.incFlags; split <;> rfl
@[simp] theorem State.incFlags_l (s : State) (old : Byte) : (s.incFlags old).l = s.l := by unfold State.incFlags; split <;> rfl
@[simp] theorem State.incFlags_sp (s : State) (old : Byte) : (s.incFlags old).sp = s.sp := by unfold State.incFlags; split <;> rfl
@[simp] theorem State.incFlags_pc (s : State) (old : Byte) : (s.incFlags old).pc = s.pc := by unfold State.incFlags; split <;> rfl
@[simp] theorem State.incFlags_mem (s : State) (old : Byte) : (s.incFlags old).mem = s.mem := by unfold State.incFlags; split <;> rfl
@[simp] theorem State.incFlags_sink (s : State) (old : Byte) : (s.incFlags old).sink = s.sink := by unfold State.incFlags; split <;> rfl
@[simp] theorem State.incFlags_faultMark (s : State) (old : Byte) : (s.incFlags old).faultMark = s.faultMark := by unfold State.incFlags; split <;> rfl
@[simp] theorem State.incFlags_cfg (s : State) (old : Byte) : (s.incFlags old).cfg = s.cfg := by unfold State.incFlags; split <;> rfl

/-! ### `decFlags` -/

@[simp] theorem State.decFlags_a (s : State) (old : Byte) : (s.decFlags old).a = s.a := by unfold State.decFlags; split <;> rfl
@[simp] theorem State.decFlags_b (s : State) (old : Byte) : (s.decFlags old).b = s.b := by unfold State.decFlags; split <;> rfl
@[simp] theorem State.decFlags_c (s : State) (old : Byte) : (s.decFlags old).c = s.c := by unfold State.decFlags; split <;> rfl
@[simp] theorem State.decFlags_d (s : State) (old : Byte) : (s.decFlags old).d = s.d := by unfold State.decFlags; split <;> rfl
@[simp] theorem State.decFlags_e (s : State) (old : Byte) : (s.decFlags old).e = s.e := by unfold State.decFlags; split <;> rfl
@[simp] theorem State.decFlags_h (s : State) (old : Byte) : (s.decFlags old).h = s.h := by unfold State.decFlags; split <;> rfl
@[simp] theorem State.decFlags_l (s : State) (old : Byte) : (s.decFlags old).l = s.l := by unfold State.decFlags; split <;> rfl
@[simp] theorem State.decFlags_sp (s : State) (old : Byte) : (s.decFlags old).sp = s.sp := by unfold State.decFlags; split <;> rfl
@[simp] theorem State.decFlags_pc (s : State) (old : Byte) : (s.decFlags old).pc = s.pc := by unfold State.decFlags; split <;> rfl
@[simp] theorem State.decFlags_mem (s : State) (old : Byte) : (s.decFlags old).mem = s.mem := by unfold State.decFlags; split <;> rfl
@[simp] theorem State.decFlags_sink (s : State) (old : Byte) : (s.decFlags old).sink = s.sink := by unfold State.decFlags; split <;> rfl
@[simp] theorem State.decFlags_faultMark (s : State) (old : Byte) : (s.decFlags old).faultMark = s.faultMark := by unfold State.decFlags; split <;> rfl
@[simp] theorem State.decFlags_cfg (s : State) (old : Byte) : (s.decFlags old).cfg = s.cfg := by unfold State.decFlags; split <;> rfl

/-! ### `offsetFlags` -/

@[simp] theorem State.offsetFlags_a (s : State) (sp : Word) (e : Byte) : (s.offsetFlags sp e).a = s.a := rfl
@[simp] theorem State.offsetFlags_b (s : State) (sp : Word) (e : Byte) : (s.offsetFlags sp e).b = s.b := rfl
@[simp] theorem State.offsetFlags_c (s : State) (sp : Word) (e : Byte) : (s.offsetFlags sp e).c = s.c := rfl
@[simp] theorem State.offsetFlags_d (s : State) (sp : Word) (e : Byte) : (s.offsetFlags sp e).d = s.d := rfl
@[simp] theorem State.offsetFlags_e (s : State) (sp : Word) (e : Byte) : (s.offsetFlags sp e).e = s.e := rfl
@[simp] theorem State.offsetFlags_h (s : State) (sp : Word) (e : Byte) : (s.offsetFlags sp e).h = s.h := rfl
@[simp] theorem State.offsetFlags_l (s : State) (sp : Word) (e : Byte) : (s.offsetFlags sp e).l = s.l := rfl
@[simp] theorem State.offsetFlags_sp (s : State) (sp : Word) (e : Byte) : (s.offsetFlags sp e).sp = s.sp := rfl
@[simp] theorem State.offsetFlags_pc (s : State) (sp : Word) (e : Byte) : (s.offsetFlags sp e).pc = s.pc := rfl
@[simp] theorem State.offsetFlags_mem (s : State) (sp : Word) (e : Byte) : (s.offsetFlags sp e).mem = s.mem := rfl
@[simp] theorem State.offsetFlags_sink (s : State) (sp : Word) (e : Byte) : (s.offsetFlags sp e).sink = s.sink := rfl
@[simp] theorem State.offsetFlags_faultMark (s : State) (sp : Word) (e : Byte) : (s.offsetFlags sp e).faultMark = s.faultMark := rfl
@[simp] theorem State.offsetFlags_cfg (s : State) (sp : Word) (e : Byte) : (s.offsetFlags sp e).cfg = s.cfg := rfl

/-! ### `rotaFlags` -/

@[simp] theorem State.rotaFlags_a (s : State) : s.rotaFlags.a = s.a := by unfold State.rotaFlags; split <;> rfl
@[simp] theorem State.rotaFlags_b (s : State) : s.rotaFlags.b = s.b := by unfold State.rotaFlags; split <;> rfl
@[simp] theorem State.rotaFlags_c (s : State) : s.rotaFlags.c = s.c := by unfold State.rotaFlags; split <;> rfl
@[simp] theorem State.rotaFlags_d (s : State) : s.rotaFlags.d = s.d := by unfold State.rotaFlags; split <;> rfl
@[simp] theorem State.rotaFlags_e (s : State) : s.rotaFlags.e = s.e := by unfold State.rotaFlags; split <;> rfl
@[simp] theorem State.rotaFlags_h (s : State) : s.rotaFlags.h = s.h := by unfold State.rotaFlags; split <;> rfl
@[simp] theorem State.rotaFlags_l (s : State) : s.rotaFlags.l = s.l := by unfold State.rotaFlags; split <;> rfl
@[simp] theorem State.rotaFlags_sp (s : State) : s.rotaFlags.sp = s.sp := by unfold State.rotaFlags; split <;> rfl
@[simp] theorem State.rotaFlags_pc (s : State) : s.rotaFlags.pc = s.pc := by unfold State.rotaFlags; split <;> rfl
@[simp] theorem State.rotaFlags_mem (s : State) : s.rotaFlags.mem = s.mem := by unfold State.rotaFlags; split <;> rfl
@[simp] theorem State.rotaFlags_sink (s : State) : s.rotaFlags.sink = s.sink := by unfold State.rotaFlags; split <;> rfl
@[simp] theorem State.rotaFlags_faultMark (s : State) : s.rotaFlags.faultMark = s.faultMark := by unfold State.rotaFlags; split <;> rfl
@[simp] theorem State.rotaFlags_cfg (s : State) : s.rotaFlags.cfg = s.cfg := by unfold State.rotaFlags; split <;> rfl

/-! ### `push16` -/

@[simp] theorem State.push16_a (s : State) (v : Word) : (s.push16 v).a = s.a := by simp [State.push16]
@[simp] theorem State.push16_f (s : State) (v : Word) : (s.push16 v).f = s.f := by simp [State.push16]
@[simp] theorem State.push16_b (s : State) (v : Word) : (s.push16 v).b = s.b := by simp [State.push16]
@[simp] theorem State.push16_c (s : State) (v : Word) : (s.push16 v).c = s.c := by simp [State.push16]
@[simp] theorem State.push16_d (s : State) (v : Word) : (s.push16 v).d = s.d := by simp [State.push16]
@[simp] theorem State.push16_e (s : State) (v : Word) : (s.push16 v).e = s.e := by simp [State.push16]
@[simp] theorem State.push16_h (s : State) (v : Word) : (s.push16 v).h = s.h := by simp [State.push16]
@[simp] theorem State.push16_l (s : State) (v : Word) : (s.push16 v).l = s.l := by simp [State.push16]
@[simp] theorem State.push16_pc (s : State) (v : Word) : (s.push16 v).pc = s.pc := by simp [State.push16]
@[simp] theorem State.push16_faultMark (s : State) (v : Word) : (s.push16 v).faultMark = s.faultMark := by simp [State.push16]
@[simp] theorem State.push16_cfg (s : State) (v : Word) : (s.push16 v).cfg = s.cfg := by simp [State.push16]

/-! ### `popped` -/

@[simp] theorem State.popped_a (s : State) : s.popped.a = s.a := rfl
@[simp] theorem State.popped_f (s : State) : s.popped.f = s.f := rfl
@[simp] theorem State.popped_b (s : State) : s.popped.b = s.b := rfl
@[simp] theorem State.popped_c (s : State) : s.popped.c = s.c := rfl
@[simp] theorem State.popped_d (s : State) : s.popped.d = s.d := rfl
@[simp] theorem State.popped_e (s : State) : s.popped.e = s.e := rfl
@[simp] theorem State.popped_h (s : State) : s.popped.h = s.h := rfl
@[simp] theorem State.popped_l (s : State) : s.popped.l = s.l := rfl
@[simp] theorem State.popped_pc (s : State) : s.popped.pc = s.pc := rfl
@[simp] theorem State.popped_mem (s : State) : s.popped.mem = s.mem := rfl
@[simp] theorem State.popped_sink (s : State) : s.popped.sink = s.sink := rfl
@[simp] theorem State.popped_faultMark (s : State) : s.popped.faultMark = s.faultMark := rfl
@[simp] theorem State.popped_cfg (s : State) : s.popped.cfg = s.cfg := rfl

/-! ### `accUpdate` -/

@[simp] theorem State.accUpdate_a (s : State) (m : AccMem) : (s.accUpdate m).a = s.a := by cases m <;> rfl
@[simp] theorem State.accUpdate_f (s : State) (m : AccMem) : (s.accUpdate m).f = s.f := by cases m <;> rfl
@[simp] theorem State.accUpdate_b (s : State) (m : AccMem) : (s.accUpdate m).b = s.b := by cases m <;> rfl
@[simp] theorem State.accUpdate_c (s : State) (m : AccMem) : (s.accUpdate m).c = s.c := by cases m <;> rfl
@[simp] theorem State.accUpdate_d (s : State) (m : AccMem) : (s.accUpdate m).d = s.d := by cases m <;> rfl
@[simp] theorem State.accUpdate_e (s : State) (m : AccMem) : (s.accUpdate m).e = s.e := by cases m <;> rfl
@[simp] theorem State.accUpdate_sp (s : State) (m : AccMem) : (s.accUpdate m).sp = s.sp := by cases m <;> rfl
@[simp] theorem State.accUpdate_pc (s : State) (m : AccMem) : (s.accUpdate m).pc = s.pc := by cases m <;> rfl
@[simp] theorem State.accUpdate_mem (s : State) (m : AccMem) : (s.accUpdate m).mem = s.mem := by cases m <;> rfl
@[simp] theorem State.accUpdate_sink (s : State) (m : AccMem) : (s.accUpdate m).sink = s.sink := by cases m <;> rfl
@[simp] theorem State.accUpdate_faultMark (s : State) (m : AccMem) : (s.accUpdate m).faultMark = s.faultMark := by cases m <;> rfl
@[simp] theorem State.accUpdate_cfg (s : State) (m : AccMem) : (s.accUpdate m).cfg = s.cfg := by cases m <;> rfl

/-! ### The fields written -/

@[simp] theorem State.advance_pc (s : State) (n : Nat) : (s.advance n).pc = s.pc + BitVec.ofNat 16 n := rfl
@[simp] theorem State.jump_pc (s : State) (t : Word) : (s.jump t).pc = t := rfl
@[simp] theorem State.raise_faultMark (s : State) (r : Fault) : (s.raise r).faultMark = some r := rfl
@[simp] theorem State.push16_sp (s : State) (v : Word) : (s.push16 v).sp = s.sp - 2#16 := rfl
@[simp] theorem State.popped_sp (s : State) : s.popped.sp = s.sp + 2#16 := rfl
@[simp] theorem State.writeF_f (s : State) (v : Byte) : (s.writeF v).f = v &&& 0xF0#8 := rfl

theorem State.readReg_writeReg (s : State) (r x : Reg8) (v : Byte) :
    (s.writeReg r v).readReg x = if x = r then v else s.readReg x := by
  cases r <;> cases x <;> rfl

@[simp] theorem State.readReg_advance (s : State) (n : Nat) (r : Reg8) : (s.advance n).readReg r = s.readReg r := by
  cases r <;> rfl

@[simp] theorem State.readPair_advance (s : State) (n : Nat) (p : Pair) : (s.advance n).readPair p = s.readPair p := by
  cases p <;> rfl

@[simp] theorem State.readStackPair_advance (s : State) (n : Nat) (q : StackPair) :
    (s.advance n).readStackPair q = s.readStackPair q := by
  cases q <;> rfl

@[simp] theorem State.readSrc_advance (s : State) (n : Nat) (src : Src8) : (s.advance n).readSrc src = s.readSrc src := by
  cases src with
  | reg r => cases r <;> rfl
  | atHL => rfl
  | imm v => rfl

@[simp] theorem State.memRead_advance (s : State) (n : Nat) (x : Word) : (s.advance n).memRead x = s.memRead x := rfl
@[simp] theorem State.flag_advance (s : State) (n : Nat) (fl : Flag) : (s.advance n).flag fl = s.flag fl := rfl
@[simp] theorem State.cond_advance (s : State) (n : Nat) (cc : Cond) : (s.advance n).cond cc = s.cond cc := by
  cases cc <;> rfl
@[simp] theorem State.accAddress_advance (s : State) (n : Nat) (m : AccMem) : (s.advance n).accAddress m = s.accAddress m := by
  cases m <;> rfl

/-! ### The loader -/

@[simp] theorem State.load_a (s : State) (x : Word) (bytes : List Byte) : (s.load x bytes).a = s.a := by
  induction bytes generalizing s x with
  | nil => rfl
  | cons v rest ih => simp [State.load, ih]

@[simp] theorem State.load_f (s : State) (x : Word) (bytes : List Byte) : (s.load x bytes).f = s.f := by
  induction bytes generalizing s x with
  | nil => rfl
  | cons v rest ih => simp [State.load, ih]

@[simp] theorem State.load_b (s : State) (x : Word) (bytes : List Byte) : (s.load x bytes).b = s.b := by
  induction bytes generalizing s x with
  | nil => rfl
  | cons v rest ih => simp [State.load, ih]

@[simp] theorem State.load_c (s : State) (x : Word) (bytes : List Byte) : (s.load x bytes).c = s.c := by
  induction bytes generalizing s x with
  | nil => rfl
  | cons v rest ih => simp [State.load, ih]

@[simp] theorem State.load_d (s : State) (x : Word) (bytes : List Byte) : (s.load x bytes).d = s.d := by
  induction bytes generalizing s x with
  | nil => rfl
  | cons v rest ih => simp [State.load, ih]

@[simp] theorem State.load_e (s : State) (x : Word) (bytes : List Byte) : (s.load x bytes).e = s.e := by
  induction bytes generalizing s x with
  | nil => rfl
  | cons v rest ih => simp [State.load, ih]

@[simp] theorem State.load_h (s : State) (x : Word) (bytes : List Byte) : (s.load x bytes).h = s.h := by
  induction bytes generalizing s x with
  | nil => rfl
  | cons v rest ih => simp [State.load, ih]

@[simp] theorem State.load_l (s : State) (x : Word) (bytes : List Byte) : (s.load x bytes).l = s.l := by
  induction bytes generalizing s x with
  | nil => rfl
  | cons v rest ih => simp [State.load, ih]

@[simp] theorem State.load_sp (s : State) (x : Word) (bytes : List Byte) : (s.load x bytes).sp = s.sp := by
  induction bytes generalizing s x with
  | nil => rfl
  | cons v rest ih => simp [State.load, ih]

@[simp] theorem State.load_pc (s : State) (x : Word) (bytes : List Byte) : (s.load x bytes).pc = s.pc := by
  induction bytes generalizing s x with
  | nil => rfl
  | cons v rest ih => simp [State.load, ih]

@[simp] theorem State.load_sink (s : State) (x : Word) (bytes : List Byte) : (s.load x bytes).sink = s.sink := by
  induction bytes generalizing s x with
  | nil => rfl
  | cons v rest ih => simp [State.load, ih]

@[simp] theorem State.load_faultMark (s : State) (x : Word) (bytes : List Byte) : (s.load x bytes).faultMark = s.faultMark := by
  induction bytes generalizing s x with
  | nil => rfl
  | cons v rest ih => simp [State.load, ih]

@[simp] theorem State.load_cfg (s : State) (x : Word) (bytes : List Byte) : (s.load x bytes).cfg = s.cfg := by
  induction bytes generalizing s x with
  | nil => rfl
  | cons v rest ih => simp [State.load, ih]

end Sys2Proof.Machine
end

