-- ==== Sys2Proof/Laws/Flags.lean ====
section
/-! SUPPORT. The flag register: a flag after a flag was written, bits 3 to 0, and F as one byte. -/

namespace Sys2Proof.Machine

/-- Reading a flag after writing one (R29). -/
@[simp] theorem State.flag_setFlag (s : State) (fl x : Flag) (v : Bool) :
    (s.setFlag fl v).flag x = if x = fl then v else s.flag x := by
  cases fl <;> cases x <;> cases v <;> simp [State.flag, State.setFlag, Flag.bit, Flag.mask]

/-- Writing a flag leaves bits 3 to 0 (R29). -/
@[simp] theorem State.low_setFlag (s : State) (fl : Flag) (v : Bool) : (s.setFlag fl v).f &&& 0x0F#8 = s.f &&& 0x0F#8 := by
  unfold State.setFlag
  generalize s.f = f
  cases fl <;> cases v <;> simp only [Flag.mask] <;> revert f <;> decide

/-- F is its four flags and its low bits (R26). -/
theorem State.f_eq_withFlags (s : State) : s.f = s.withFlags (s.flag .z) (s.flag .n) (s.flag .h) (s.flag .cy) := by
  unfold State.withFlags State.flag flagByte Flag.bit
  generalize s.f = f
  revert f; decide

/-- F is determined by the four flags and the low bits. -/
theorem State.f_ext {s t : State} (hz : t.flag .z = s.flag .z) (hn : t.flag .n = s.flag .n) (hh : t.flag .h = s.flag .h)
    (hc : t.flag .cy = s.flag .cy) (hl : t.f &&& 0x0F#8 = s.f &&& 0x0F#8) : t.f = s.f := by
  rw [State.f_eq_withFlags t, State.f_eq_withFlags s, hz, hn, hh, hc]
  simp only [State.withFlags, hl]

/-- F after any flag writes, as one byte. -/
theorem State.f_eq_of_flags {s t : State} {z n h cy : Bool} (hz : t.flag .z = z) (hn : t.flag .n = n) (hh : t.flag .h = h)
    (hc : t.flag .cy = cy) (hl : t.f &&& 0x0F#8 = s.f &&& 0x0F#8) : t.f = s.withFlags z n h cy := by
  rw [State.f_eq_withFlags t, hz, hn, hh, hc]
  simp only [State.withFlags, hl]

theorem State.setFlag_f (s : State) (fl : Flag) (v : Bool) :
    (s.setFlag fl v).f = s.withFlags (if fl = .z then v else s.flag .z) (if fl = .n then v else s.flag .n)
      (if fl = .h then v else s.flag .h) (if fl = .cy then v else s.flag .cy) := by
  apply State.f_eq_of_flags <;> simp [eq_comm]

@[simp] theorem State.flag_setFlags (s : State) (z n h cy : Bool) (x : Flag) :
    (s.setFlags z n h cy).flag x = match x with | .z => z | .n => n | .h => h | .cy => cy := by
  cases x <;> simp [State.setFlags]

@[simp] theorem State.low_setFlags (s : State) (z n h cy : Bool) : (s.setFlags z n h cy).f &&& 0x0F#8 = s.f &&& 0x0F#8 := by
  simp [State.setFlags]

theorem State.setFlags_f (s : State) (z n h cy : Bool) : (s.setFlags z n h cy).f = s.withFlags z n h cy := by
  apply State.f_eq_of_flags <;> simp

@[simp] theorem State.low_incFlags (s : State) (v : Byte) : (s.incFlags v).f &&& 0x0F#8 = s.f &&& 0x0F#8 := by
  unfold State.incFlags; split <;> simp

@[simp] theorem State.low_decFlags (s : State) (v : Byte) : (s.decFlags v).f &&& 0x0F#8 = s.f &&& 0x0F#8 := by
  unfold State.decFlags; split <;> simp

@[simp] theorem State.low_offsetFlags (s : State) (w : Word) (e : Byte) : (s.offsetFlags w e).f &&& 0x0F#8 = s.f &&& 0x0F#8 := by
  simp [State.offsetFlags]

@[simp] theorem State.low_rotaFlags (s : State) : s.rotaFlags.f &&& 0x0F#8 = s.f &&& 0x0F#8 := by
  unfold State.rotaFlags; split <;> simp

theorem State.flag_congr {s t : State} (h : t.f = s.f) (fl : Flag) : t.flag fl = s.flag fl := by
  simp [State.flag, h]

theorem State.withFlags_congr {s t : State} (h : t.f = s.f) (z n hc cy : Bool) :
    t.withFlags z n hc cy = s.withFlags z n hc cy := by
  simp [State.withFlags, h]

@[simp] theorem State.low_writeF (s : State) (v : Byte) : (s.writeF v).f &&& 0x0F#8 = 0#8 := by
  have h : ∀ w : Byte, (w &&& 0xF0#8) &&& 0x0F#8 = 0#8 := by decide
  exact h v

end Sys2Proof.Machine
end

