-- ==== Sys2Proof/Laws/Alu.lean ====
section
/-! SUPPORT. What the shared ALU routine leaves alone, one lemma per field. -/

namespace Sys2Proof.Machine

@[simp] theorem State.alu8_b (s : State) (op : AluOp) (v : Byte) : (s.alu8 op v).b = s.b := by
  cases op <;> rfl
@[simp] theorem State.alu8_c (s : State) (op : AluOp) (v : Byte) : (s.alu8 op v).c = s.c := by
  cases op <;> rfl
@[simp] theorem State.alu8_d (s : State) (op : AluOp) (v : Byte) : (s.alu8 op v).d = s.d := by
  cases op <;> rfl
@[simp] theorem State.alu8_e (s : State) (op : AluOp) (v : Byte) : (s.alu8 op v).e = s.e := by
  cases op <;> rfl
@[simp] theorem State.alu8_h (s : State) (op : AluOp) (v : Byte) : (s.alu8 op v).h = s.h := by
  cases op <;> rfl
@[simp] theorem State.alu8_l (s : State) (op : AluOp) (v : Byte) : (s.alu8 op v).l = s.l := by
  cases op <;> rfl
@[simp] theorem State.alu8_sp (s : State) (op : AluOp) (v : Byte) : (s.alu8 op v).sp = s.sp := by
  cases op <;> rfl
@[simp] theorem State.alu8_pc (s : State) (op : AluOp) (v : Byte) : (s.alu8 op v).pc = s.pc := by
  cases op <;> rfl
@[simp] theorem State.alu8_mem (s : State) (op : AluOp) (v : Byte) : (s.alu8 op v).mem = s.mem := by
  cases op <;> rfl
@[simp] theorem State.alu8_sink (s : State) (op : AluOp) (v : Byte) : (s.alu8 op v).sink = s.sink := by
  cases op <;> rfl
@[simp] theorem State.alu8_faultMark (s : State) (op : AluOp) (v : Byte) : (s.alu8 op v).faultMark = s.faultMark := by
  cases op <;> rfl
@[simp] theorem State.alu8_cfg (s : State) (op : AluOp) (v : Byte) : (s.alu8 op v).cfg = s.cfg := by
  cases op <;> rfl

@[simp] theorem State.low_alu8 (s : State) (op : AluOp) (v : Byte) : (s.alu8 op v).f &&& 0x0F#8 = s.f &&& 0x0F#8 := by
  cases op <;> simp [State.alu8, State.aluAdd, State.aluSub, State.aluLogic, State.subFlags]

end Sys2Proof.Machine
end

