-- ==== Sys2Proof/Laws/Memory.lean ====
section
/-! SUPPORT. The laws of a memory list: a read after a write, and that every operation keeps the canonical form. -/

namespace Sys2Proof.Machine

theorem Memory.read_erase (m : Memory) (a x : Nat) :
    (m.erase a).read x = if x = a then Memory.unlisted else m.read x := by
  induction m with
  | nil => simp [Memory.erase, Memory.read]
  | cons cell rest ih =>
    rcases cell with ⟨k, w⟩
    have herase : Memory.erase ((k, w) :: rest) a = if k = a then Memory.erase rest a else (k, w) :: Memory.erase rest a := by
      by_cases hk : k = a <;> simp [Memory.erase, hk]
    rw [herase]
    by_cases hk : k = a
    · rw [if_pos hk, ih]
      by_cases hx : x = a
      · simp [hx]
      · simp [Memory.read, hx, show k ≠ x from fun h => hx (h.symm.trans hk)]
    · rw [if_neg hk]
      by_cases hx : k = x
      · simp [Memory.read, hx, show x ≠ a from fun h => hk (hx.trans h)]
      · simp [Memory.read, hx, ih]

theorem Memory.read_insert (m : Memory) (a x : Nat) (v : Byte) (h : ∀ cell ∈ m, cell.1 ≠ a) :
    (m.insert a v).read x = if x = a then v else m.read x := by
  induction m with
  | nil => simp [Memory.insert, Memory.read, eq_comm]
  | cons cell rest ih =>
    rcases cell with ⟨k, w⟩
    have hk : k ≠ a := h (k, w) (by simp)
    have ih' := ih (fun c hc => h c (by simp [hc]))
    by_cases hlt : a < k
    · simp [Memory.insert, Memory.read, hlt, eq_comm]
    · by_cases hx : k = x
      · subst hx; simp [Memory.insert, Memory.read, hlt, hk]
      · simp [Memory.insert, Memory.read, hlt, hx, ih']

theorem Memory.erase_ne (m : Memory) (a : Nat) : ∀ cell ∈ m.erase a, cell.1 ≠ a := by
  intro cell hc; simpa using (List.mem_filter.mp hc).2

/-- A read after a write (R54, R64). -/
@[simp] theorem Memory.read_write (m : Memory) (a x : Nat) (v : Byte) :
    (m.write a v).read x = if x = a then v else m.read x := by
  unfold Memory.write
  split
  · next hv => rw [Memory.read_erase, hv]
  · rw [Memory.read_insert _ _ _ _ (m.erase_ne a), Memory.read_erase]
    split <;> rfl

theorem Memory.erase_wf {m : Memory} (h : m.wf) (a : Nat) : (m.erase a).wf :=
  ⟨h.1.filter _, fun cell hc => h.2 cell (List.mem_filter.mp hc).1⟩

theorem Memory.mem_insert {m : Memory} {a : Nat} {v : Byte} {cell : Host.Cell} (h : cell ∈ m.insert a v) :
    cell = (a, v) ∨ cell ∈ m := by
  induction m with
  | nil => simpa [Memory.insert] using h
  | cons c rest ih =>
    by_cases hlt : a < c.1
    · simpa [Memory.insert, hlt] using h
    · simp only [Memory.insert, hlt, if_false, List.mem_cons] at h
      rcases h with h | h
      · simp [h]
      · rcases ih h with h | h <;> simp [h]

theorem Memory.insert_wf {m : Memory} (h : m.wf) {a : Nat} (ha : a < 65536) {v : Byte} (hv : v ≠ Memory.unlisted)
    (hne : ∀ cell ∈ m, cell.1 ≠ a) : (m.insert a v).wf := by
  refine ⟨?_, fun cell hc => ?_⟩
  · replace h := h.1
    induction m with
    | nil => simp [Memory.insert]
    | cons c rest ih =>
      have hc : c.1 ≠ a := hne c (by simp)
      rw [List.pairwise_cons] at h
      by_cases hlt : a < c.1
      · simp only [Memory.insert, hlt, if_true]
        refine List.pairwise_cons.mpr ⟨fun x hx => ?_, List.pairwise_cons.mpr h⟩
        rcases List.mem_cons.mp hx with rfl | hx
        · exact hlt
        · exact lt_trans hlt (h.1 x hx)
      · simp only [Memory.insert, hlt, if_false]
        refine List.pairwise_cons.mpr ⟨fun x hx => ?_, ih (fun x hx => hne x (by simp [hx])) h.2⟩
        rcases Memory.mem_insert hx with rfl | hx
        · exact lt_of_le_of_ne (Nat.le_of_not_lt hlt) hc
        · exact h.1 x hx
  · rcases Memory.mem_insert hc with rfl | hc
    · exact ⟨ha, hv⟩
    · exact h.2 cell hc

/-- A write keeps the canonical form. -/
theorem Memory.write_wf {m : Memory} (h : m.wf) {a : Nat} (ha : a < 65536) (v : Byte) : (m.write a v).wf := by
  unfold Memory.write
  split
  · exact Memory.erase_wf h a
  · next hv => exact Memory.insert_wf (Memory.erase_wf h a) ha hv (m.erase_ne a)

/-- `MemWrite` keeps the canonical form. -/
theorem State.memWrite_wf {s : State} (h : s.mem.wf) (a : Word) (v : Byte) : (s.memWrite a v).mem.wf := by
  unfold State.memWrite
  split
  · exact h
  · exact Memory.write_wf h a.isLt v

/-- The loader keeps the canonical form. -/
theorem State.load_wf {s : State} (h : s.mem.wf) (a : Word) (bytes : List Byte) : (s.load a bytes).mem.wf := by
  induction bytes generalizing s a with
  | nil => exact h
  | cons v rest ih => exact ih (s := { s with mem := s.mem.write a.toNat v }) (Memory.write_wf h a.isLt v) (a + 1#16)

end Sys2Proof.Machine
end

