-- ==== Sys2Proof/Laws/Ops.lean ====
section
/-! SUPPORT. One lemma for each shared memory and stack operation that says all it does. -/

namespace Sys2Proof.Machine

theorem State.memRead_congr {s t : State} (h : t.mem = s.mem) (x : Word) : t.memRead x = s.memRead x := by
  simp [State.memRead, h]

@[simp] theorem State.memRead_jump (s : State) (a x : Word) : (s.jump a).memRead x = s.memRead x := rfl

/-- A signed offset added to an address (R11). -/
theorem ofInt_add_toInt (w : Word) (e : Byte) : BitVec.ofInt 16 ((w.toNat : Int) + e.toInt) = w + sext16 e := by
  rw [BitVec.ofInt_add]
  congr 1
  apply BitVec.eq_of_toNat_eq
  simp

/-- `MemWrite` as seen by a read: the byte where it was stored, never at 0xFF01 (R54, R56). -/
theorem State.memRead_memWrite (s : State) (a x : Word) (v : Byte) :
    (s.memWrite a v).memRead x = if x = a ∧ a ≠ sinkAddress then v else s.memRead x := by
  unfold State.memWrite State.memRead
  by_cases ha : a = sinkAddress
  · simp [ha]
  · simp [ha, BitVec.toNat_inj]

/-- `MemWrite` as seen by the sink (R56). -/
theorem State.memWrite_sink (s : State) (a : Word) (v : Byte) :
    (s.memWrite a v).sink = if a = sinkAddress then s.sink ++ [v] else s.sink := by
  unfold State.memWrite; split <;> rfl

/-- A raw store as seen by a read (R69). -/
theorem State.memRead_store (s : State) (a x : Word) (v : Byte) :
    ({ s with mem := s.mem.write a.toNat v } : State).memRead x = if x = a then v else s.memRead x := by
  simp [State.memRead, BitVec.toNat_inj]

/-- Three raw stores as seen by a read: the last one wins. -/
theorem State.memRead_store_store_store (s : State) (a b c x : Word) (u v w : Byte) :
    ({ s with mem := ((s.mem.write a.toNat u).write b.toNat v).write c.toNat w } : State).memRead x =
      if x = c then w else if x = b then v else if x = a then u else s.memRead x := by
  simp [State.memRead, BitVec.toNat_inj]

/-- `push16` as seen by a read (R183, R56). -/
theorem State.memRead_push16 (s : State) (v x : Word) :
    (s.push16 v).memRead x =
      if x = s.sp - 2#16 ∧ s.sp - 2#16 ≠ sinkAddress then loByte v
      else if x = s.sp - 1#16 ∧ s.sp - 1#16 ≠ sinkAddress then hiByte v else s.memRead x := by
  have h : (s.push16 v).memRead x = ((s.memWrite (s.sp - 1#16) (hiByte v)).memWrite (s.sp - 2#16) (loByte v)).memRead x := rfl
  rw [h, State.memRead_memWrite, State.memRead_memWrite]

/-- `push16` as seen by the sink: at most one of its two bytes goes there (R60). -/
theorem State.push16_sink (s : State) (v : Word) :
    (s.push16 v).sink =
      if s.sp - 1#16 = sinkAddress then s.sink ++ [hiByte v]
      else if s.sp - 2#16 = sinkAddress then s.sink ++ [loByte v] else s.sink := by
  have h : (s.push16 v).sink = ((s.memWrite (s.sp - 1#16) (hiByte v)).memWrite (s.sp - 2#16) (loByte v)).sink := rfl
  rw [h, State.memWrite_sink, State.memWrite_sink]
  by_cases h1 : s.sp - 1#16 = sinkAddress
  · have h2 : s.sp - 2#16 ≠ sinkAddress := by
      intro h2; have := h1.trans h2.symm; bv_omega
    rw [if_neg h2, if_pos h1, if_pos h1]
  · rw [if_neg h1, if_neg h1]

theorem State.push16_wf {s : State} (h : s.mem.wf) (v : Word) : (s.push16 v).mem.wf :=
  State.memWrite_wf (s := s.memWrite (s.sp - 1#16) (hiByte v)) (State.memWrite_wf h _ _) _ _

/-- Three loaded bytes are what the next fetch reads (R69, R102). -/
theorem State.fetch_after_load (s : State) (a : Word) (x y z : Byte) :
    (s.load a [x, y, z]).memRead a = x ∧ (s.load a [x, y, z]).memRead (a + 1#16) = y ∧
      (s.load a [x, y, z]).memRead (a + 2#16) = z := by
  have h1 : a ≠ a + 1#16 := by bv_omega
  have h2 : a ≠ a + 2#16 := by bv_omega
  have h3 : a + 1#16 ≠ a + 2#16 := by bv_omega
  have h12 : a + 1#16 + 1#16 = a + 2#16 := by bv_omega
  simp only [State.load, h12]
  refine ⟨?_, ?_, ?_⟩
  · rw [State.memRead_store_store_store]; simp [h1, h2]
  · rw [State.memRead_store_store_store]; simp [h3]
  · rw [State.memRead_store_store_store]; simp

end Sys2Proof.Machine
end

