-- ==== Sys2Proof/Laws/Exec.lean ====
section
/-! SUPPORT. For each family, what `exec` does with it, said once in terms of its operands. -/

namespace Sys2Proof.Machine

theorem exec_incReg (r : Reg8) (s : State) : exec (Instr.incReg r) s = .next ((s.advance 1).incReg r) := by
  cases r <;> rfl

theorem exec_decReg (r : Reg8) (s : State) : exec (Instr.decReg r) s = .next ((s.advance 1).decReg r) := by
  cases r <;> rfl

theorem exec_incPair (p : Pair) (s : State) : exec (Instr.incPair p) s = .next ((s.advance 1).incPair p) := by
  cases p <;> rfl

theorem exec_decPair (p : Pair) (s : State) : exec (Instr.decPair p) s = .next ((s.advance 1).decPair p) := by
  cases p <;> rfl

theorem exec_addHL (p : Pair) (s : State) : exec (Instr.addHL p) s = .next ((s.advance 1).addHL p) := by
  cases p <;> rfl

theorem exec_alu (op : AluOp) (src : Src8) (s : State) : exec (Instr.alu op src) s = .next ((s.advance (Instr.alu op src).length).alu op src) := by
  cases src with
  | reg r => cases op <;> cases r <;> rfl
  | atHL => cases op <;> rfl
  | imm v => cases op <;> rfl

theorem exec_ldReg (r : Reg8) (src : Src8) (s : State) : exec (Instr.ldReg r src) s = .next ((s.advance (Instr.ldReg r src).length).loadReg r src) := by
  cases src with
  | reg r => rename Reg8 => x; cases r <;> cases x <;> rfl
  | atHL => cases r <;> rfl
  | imm v => cases r <;> rfl

theorem exec_stHL (r : Reg8) (s : State) : exec (Instr.stHL r) s = .next ((s.advance 1).storeHL (.reg r)) := by
  cases r <;> rfl

theorem exec_storeA (m : AccMem) (s : State) : exec (Instr.storeA m) s = .next ((s.advance (Instr.storeA m).length).storeA m) := by
  cases m <;> rfl

theorem exec_loadA (m : AccMem) (s : State) : exec (Instr.loadA m) s = .next ((s.advance (Instr.loadA m).length).loadA m) := by
  cases m <;> rfl

theorem exec_ldPair (p : Pair) (v : Word) (s : State) : exec (Instr.ldPair p v) s = .next ((s.advance 3).writePair p v) := by
  cases p <;> rfl

theorem exec_push (q : StackPair) (s : State) : exec (Instr.push q) s = .next ((s.advance 1).push q) := by
  cases q <;> rfl

theorem exec_pop (q : StackPair) (s : State) : exec (Instr.pop q) s = .next ((s.advance 1).pop q) := by
  cases q <;> rfl

theorem exec_jrIf (cc : Cond) (e : Byte) (s : State) : exec (Instr.jrIf cc e) s = .next ((s.advance 2).jumpRelativeIf cc e) := by
  cases cc <;> rfl

theorem exec_jpIf (cc : Cond) (a : Word) (s : State) : exec (Instr.jpIf cc a) s = .next ((s.advance 3).jumpIf cc a) := by
  cases cc <;> rfl

theorem exec_callIf (cc : Cond) (a : Word) (s : State) : exec (Instr.callIf cc a) s = .next ((s.advance 3).callIf cc a) := by
  cases cc <;> rfl

theorem exec_retIf (cc : Cond) (s : State) : exec (Instr.retIf cc) s = .next ((s.advance 1).retIf cc) := by
  cases cc <;> rfl

theorem exec_rst (t : RstVec) (s : State) : exec (Instr.rst t) s = .next ((s.advance 1).rst t) := by
  cases t <;> rfl

theorem exec_rot (op : RotOp) (s : State) : exec (Instr.rot op) s = .next ((s.advance 1).rotate op) := by
  cases op <;> rfl

/-- A run whose first step answers a next state goes on from there. -/
theorem run_succ {s t : State} {k : Nat} (h : step s = .next t) :
    Host.Core.run Sys2Proof.core (k + 1) s = Host.Core.run Sys2Proof.core k t := by
  have key : ∀ (M : Host.Core) (x y : M.State), M.step x = .next y → M.run (k + 1) x = M.run k y := by
    intro M x y hxy; simp only [Host.Core.run, hxy]
  exact key Sys2Proof.core s t h

/-- The loader placed the table word's instruction: an unmarked state's next step runs what the decoder reads from it. -/
theorem step_withFetchWord (s : State) (nbits w : Nat) (i : Instr) (hm : s.faultMark = none)
    (hd : i = decodeOp (BitVec.ofNat 8 (w % 2 ^ nbits)) (BitVec.ofNat 8 (w % 2 ^ nbits / 2 ^ 8))
      (BitVec.ofNat 8 (w % 2 ^ nbits / 2 ^ 16))) :
    step (s.withFetchWord nbits w) = exec i (s.withFetchWord nbits w) := by
  obtain ⟨h0, h1, h2⟩ := State.fetch_after_load s s.pc (BitVec.ofNat 8 (w % 2 ^ nbits))
    (BitVec.ofNat 8 (w % 2 ^ nbits / 2 ^ 8)) (BitVec.ofNat 8 (w % 2 ^ nbits / 2 ^ 16))
  have hmark : (s.withFetchWord nbits w).faultMark = none := by simp [State.withFetchWord, hm]
  have hfetch : (s.withFetchWord nbits w).fetchInstr = i := by
    simp only [State.withFetchWord, tableBytes, State.fetchInstr, State.load_pc, h0, h1, h2, hd]
  simp only [step, hmark, hfetch]

end Sys2Proof.Machine
end

