-- ==== Sys2Proof/WellFormed.lean ====
section
/-! DEFINITION. When a string of bytes is one instruction (30_encoding.md R80, R81), and that an instruction term is well formed
when its bytes are. Register numbers, conditions and vectors are constructors and immediates carry their width in their type, so
the only checks left are on bytes: there is an opcode, and it has exactly the immediate bytes its format needs. -/

namespace Sys2Proof

/-- The bytes are exactly one instruction: an opcode byte, then as many immediate bytes as its format has. -/
def codeWellFormed (bytes : List Byte) : Bool :=
  match bytes with
  | [] => false
  | op :: immediates => immediates.length == immediateCount op

/-- An instruction is well formed when its encoding is. -/
def Instr.wellFormed (i : Instr) : Bool := codeWellFormed i.encode

end Sys2Proof
end

