-- ==== Sys2Proof/Laws/PerInstr.lean ====
section
/-! SUPPORT. A fact about every instruction as syntax, one lemma per constructor: its encoding is a well-formed code, whatever its
immediates. -/

/-- The encoding of `i` is exactly one instruction (R80, R81). -/
def Sys2Proof.Laws.WellFormedCode.Statement (i : Sys2Proof.Instr) : Prop := i.wellFormed = true

namespace Sys2Proof.Laws.WellFormedCode

theorem nop : Statement .nop := rfl
theorem ldBCD16 (v : Word) : Statement (.ldBCD16 v) := rfl
theorem ldAtBCA : Statement .ldAtBCA := rfl
theorem incBC : Statement .incBC := rfl
theorem incB : Statement .incB := rfl
theorem decB : Statement .decB := rfl
theorem ldBD8 (v : Byte) : Statement (.ldBD8 v) := rfl
theorem rlca : Statement .rlca := rfl
theorem ldAtA16SP (a : Word) : Statement (.ldAtA16SP a) := rfl
theorem addHLBC : Statement .addHLBC := rfl
theorem ldAAtBC : Statement .ldAAtBC := rfl
theorem decBC : Statement .decBC := rfl
theorem incC : Statement .incC := rfl
theorem decC : Statement .decC := rfl
theorem ldCD8 (v : Byte) : Statement (.ldCD8 v) := rfl
theorem rrca : Statement .rrca := rfl
theorem stop : Statement .stop := rfl
theorem ldDED16 (v : Word) : Statement (.ldDED16 v) := rfl
theorem ldAtDEA : Statement .ldAtDEA := rfl
theorem incDE : Statement .incDE := rfl
theorem incD : Statement .incD := rfl
theorem decD : Statement .decD := rfl
theorem ldDD8 (v : Byte) : Statement (.ldDD8 v) := rfl
theorem rla : Statement .rla := rfl
theorem jrE8 (e : Byte) : Statement (.jrE8 e) := rfl
theorem addHLDE : Statement .addHLDE := rfl
theorem ldAAtDE : Statement .ldAAtDE := rfl
theorem decDE : Statement .decDE := rfl
theorem incE : Statement .incE := rfl
theorem decE : Statement .decE := rfl
theorem ldED8 (v : Byte) : Statement (.ldED8 v) := rfl
theorem rra : Statement .rra := rfl
theorem jrNZE8 (e : Byte) : Statement (.jrNZE8 e) := rfl
theorem ldHLD16 (v : Word) : Statement (.ldHLD16 v) := rfl
theorem ldAtHLIncA : Statement .ldAtHLIncA := rfl
theorem incHL : Statement .incHL := rfl
theorem incH : Statement .incH := rfl
theorem decH : Statement .decH := rfl
theorem ldHD8 (v : Byte) : Statement (.ldHD8 v) := rfl
theorem daa : Statement .daa := rfl
theorem jrZE8 (e : Byte) : Statement (.jrZE8 e) := rfl
theorem addHLHL : Statement .addHLHL := rfl
theorem ldAAtHLInc : Statement .ldAAtHLInc := rfl
theorem decHL : Statement .decHL := rfl
theorem incL : Statement .incL := rfl
theorem decL : Statement .decL := rfl
theorem ldLD8 (v : Byte) : Statement (.ldLD8 v) := rfl
theorem cpl : Statement .cpl := rfl
theorem jrNCE8 (e : Byte) : Statement (.jrNCE8 e) := rfl
theorem ldSPD16 (v : Word) : Statement (.ldSPD16 v) := rfl
theorem ldAtHLDecA : Statement .ldAtHLDecA := rfl
theorem incSP : Statement .incSP := rfl
theorem incAtHL : Statement .incAtHL := rfl
theorem decAtHL : Statement .decAtHL := rfl
theorem ldAtHLD8 (v : Byte) : Statement (.ldAtHLD8 v) := rfl
theorem scf : Statement .scf := rfl
theorem jrCE8 (e : Byte) : Statement (.jrCE8 e) := rfl
theorem addHLSP : Statement .addHLSP := rfl
theorem ldAAtHLDec : Statement .ldAAtHLDec := rfl
theorem decSP : Statement .decSP := rfl
theorem incA : Statement .incA := rfl
theorem decA : Statement .decA := rfl
theorem ldAD8 (v : Byte) : Statement (.ldAD8 v) := rfl
theorem ccf : Statement .ccf := rfl
theorem ldBB : Statement .ldBB := rfl
theorem ldBC : Statement .ldBC := rfl
theorem ldBD : Statement .ldBD := rfl
theorem ldBE : Statement .ldBE := rfl
theorem ldBH : Statement .ldBH := rfl
theorem ldBL : Statement .ldBL := rfl
theorem ldBAtHL : Statement .ldBAtHL := rfl
theorem ldBA : Statement .ldBA := rfl
theorem ldCB : Statement .ldCB := rfl
theorem ldCC : Statement .ldCC := rfl
theorem ldCD : Statement .ldCD := rfl
theorem ldCE : Statement .ldCE := rfl
theorem ldCH : Statement .ldCH := rfl
theorem ldCL : Statement .ldCL := rfl
theorem ldCAtHL : Statement .ldCAtHL := rfl
theorem ldCA : Statement .ldCA := rfl
theorem ldDB : Statement .ldDB := rfl
theorem ldDC : Statement .ldDC := rfl
theorem ldDD : Statement .ldDD := rfl
theorem ldDE : Statement .ldDE := rfl
theorem ldDH : Statement .ldDH := rfl
theorem ldDL : Statement .ldDL := rfl
theorem ldDAtHL : Statement .ldDAtHL := rfl
theorem ldDA : Statement .ldDA := rfl
theorem ldEB : Statement .ldEB := rfl
theorem ldEC : Statement .ldEC := rfl
theorem ldED : Statement .ldED := rfl
theorem ldEE : Statement .ldEE := rfl
theorem ldEH : Statement .ldEH := rfl
theorem ldEL : Statement .ldEL := rfl
theorem ldEAtHL : Statement .ldEAtHL := rfl
theorem ldEA : Statement .ldEA := rfl
theorem ldHB : Statement .ldHB := rfl
theorem ldHC : Statement .ldHC := rfl
theorem ldHD : Statement .ldHD := rfl
theorem ldHE : Statement .ldHE := rfl
theorem ldHH : Statement .ldHH := rfl
theorem ldHL : Statement .ldHL := rfl
theorem ldHAtHL : Statement .ldHAtHL := rfl
theorem ldHA : Statement .ldHA := rfl
theorem ldLB : Statement .ldLB := rfl
theorem ldLC : Statement .ldLC := rfl
theorem ldLD : Statement .ldLD := rfl
theorem ldLE : Statement .ldLE := rfl
theorem ldLH : Statement .ldLH := rfl
theorem ldLL : Statement .ldLL := rfl
theorem ldLAtHL : Statement .ldLAtHL := rfl
theorem ldLA : Statement .ldLA := rfl
theorem ldAtHLB : Statement .ldAtHLB := rfl
theorem ldAtHLC : Statement .ldAtHLC := rfl
theorem ldAtHLD : Statement .ldAtHLD := rfl
theorem ldAtHLE : Statement .ldAtHLE := rfl
theorem ldAtHLH : Statement .ldAtHLH := rfl
theorem ldAtHLL : Statement .ldAtHLL := rfl
theorem halt : Statement .halt := rfl
theorem ldAtHLA : Statement .ldAtHLA := rfl
theorem ldAB : Statement .ldAB := rfl
theorem ldAC : Statement .ldAC := rfl
theorem ldAD : Statement .ldAD := rfl
theorem ldAE : Statement .ldAE := rfl
theorem ldAH : Statement .ldAH := rfl
theorem ldAL : Statement .ldAL := rfl
theorem ldAAtHL : Statement .ldAAtHL := rfl
theorem ldAA : Statement .ldAA := rfl
theorem addAB : Statement .addAB := rfl
theorem addAC : Statement .addAC := rfl
theorem addAD : Statement .addAD := rfl
theorem addAE : Statement .addAE := rfl
theorem addAH : Statement .addAH := rfl
theorem addAL : Statement .addAL := rfl
theorem addAAtHL : Statement .addAAtHL := rfl
theorem addAA : Statement .addAA := rfl
theorem adcAB : Statement .adcAB := rfl
theorem adcAC : Statement .adcAC := rfl
theorem adcAD : Statement .adcAD := rfl
theorem adcAE : Statement .adcAE := rfl
theorem adcAH : Statement .adcAH := rfl
theorem adcAL : Statement .adcAL := rfl
theorem adcAAtHL : Statement .adcAAtHL := rfl
theorem adcAA : Statement .adcAA := rfl
theorem subB : Statement .subB := rfl
theorem subC : Statement .subC := rfl
theorem subD : Statement .subD := rfl
theorem subE : Statement .subE := rfl
theorem subH : Statement .subH := rfl
theorem subL : Statement .subL := rfl
theorem subAtHL : Statement .subAtHL := rfl
theorem subA : Statement .subA := rfl
theorem sbcAB : Statement .sbcAB := rfl
theorem sbcAC : Statement .sbcAC := rfl
theorem sbcAD : Statement .sbcAD := rfl
theorem sbcAE : Statement .sbcAE := rfl
theorem sbcAH : Statement .sbcAH := rfl
theorem sbcAL : Statement .sbcAL := rfl
theorem sbcAAtHL : Statement .sbcAAtHL := rfl
theorem sbcAA : Statement .sbcAA := rfl
theorem andB : Statement .andB := rfl
theorem andC : Statement .andC := rfl
theorem andD : Statement .andD := rfl
theorem andE : Statement .andE := rfl
theorem andH : Statement .andH := rfl
theorem andL : Statement .andL := rfl
theorem andAtHL : Statement .andAtHL := rfl
theorem andA : Statement .andA := rfl
theorem xorB : Statement .xorB := rfl
theorem xorC : Statement .xorC := rfl
theorem xorD : Statement .xorD := rfl
theorem xorE : Statement .xorE := rfl
theorem xorH : Statement .xorH := rfl
theorem xorL : Statement .xorL := rfl
theorem xorAtHL : Statement .xorAtHL := rfl
theorem xorA : Statement .xorA := rfl
theorem orB : Statement .orB := rfl
theorem orC : Statement .orC := rfl
theorem orD : Statement .orD := rfl
theorem orE : Statement .orE := rfl
theorem orH : Statement .orH := rfl
theorem orL : Statement .orL := rfl
theorem orAtHL : Statement .orAtHL := rfl
theorem orA : Statement .orA := rfl
theorem cpB : Statement .cpB := rfl
theorem cpC : Statement .cpC := rfl
theorem cpD : Statement .cpD := rfl
theorem cpE : Statement .cpE := rfl
theorem cpH : Statement .cpH := rfl
theorem cpL : Statement .cpL := rfl
theorem cpAtHL : Statement .cpAtHL := rfl
theorem cpA : Statement .cpA := rfl
theorem retNZ : Statement .retNZ := rfl
theorem popBC : Statement .popBC := rfl
theorem jpNZA16 (a : Word) : Statement (.jpNZA16 a) := rfl
theorem jpA16 (a : Word) : Statement (.jpA16 a) := rfl
theorem callNZA16 (a : Word) : Statement (.callNZA16 a) := rfl
theorem pushBC : Statement .pushBC := rfl
theorem addAD8 (v : Byte) : Statement (.addAD8 v) := rfl
theorem rst00 : Statement .rst00 := rfl
theorem retZ : Statement .retZ := rfl
theorem ret : Statement .ret := rfl
theorem jpZA16 (a : Word) : Statement (.jpZA16 a) := rfl
theorem prefixCB : Statement .prefixCB := rfl
theorem callZA16 (a : Word) : Statement (.callZA16 a) := rfl
theorem callA16 (a : Word) : Statement (.callA16 a) := rfl
theorem adcAD8 (v : Byte) : Statement (.adcAD8 v) := rfl
theorem rst08 : Statement .rst08 := rfl
theorem retNC : Statement .retNC := rfl
theorem popDE : Statement .popDE := rfl
theorem jpNCA16 (a : Word) : Statement (.jpNCA16 a) := rfl
theorem gapD3 : Statement .gapD3 := rfl
theorem callNCA16 (a : Word) : Statement (.callNCA16 a) := rfl
theorem pushDE : Statement .pushDE := rfl
theorem subD8 (v : Byte) : Statement (.subD8 v) := rfl
theorem rst10 : Statement .rst10 := rfl
theorem retC : Statement .retC := rfl
theorem reti : Statement .reti := rfl
theorem jpCA16 (a : Word) : Statement (.jpCA16 a) := rfl
theorem gapDB : Statement .gapDB := rfl
theorem callCA16 (a : Word) : Statement (.callCA16 a) := rfl
theorem gapDD : Statement .gapDD := rfl
theorem sbcAD8 (v : Byte) : Statement (.sbcAD8 v) := rfl
theorem rst18 : Statement .rst18 := rfl
theorem ldhAtA8A (n : Byte) : Statement (.ldhAtA8A n) := rfl
theorem popHL : Statement .popHL := rfl
theorem ldAtCA : Statement .ldAtCA := rfl
theorem gapE3 : Statement .gapE3 := rfl
theorem gapE4 : Statement .gapE4 := rfl
theorem pushHL : Statement .pushHL := rfl
theorem andD8 (v : Byte) : Statement (.andD8 v) := rfl
theorem rst20 : Statement .rst20 := rfl
theorem addSPE8 (e : Byte) : Statement (.addSPE8 e) := rfl
theorem jpHL : Statement .jpHL := rfl
theorem ldAtA16A (a : Word) : Statement (.ldAtA16A a) := rfl
theorem gapEB : Statement .gapEB := rfl
theorem gapEC : Statement .gapEC := rfl
theorem gapED : Statement .gapED := rfl
theorem xorD8 (v : Byte) : Statement (.xorD8 v) := rfl
theorem rst28 : Statement .rst28 := rfl
theorem ldhAAtA8 (n : Byte) : Statement (.ldhAAtA8 n) := rfl
theorem popAF : Statement .popAF := rfl
theorem ldAAtC : Statement .ldAAtC := rfl
theorem di : Statement .di := rfl
theorem gapF4 : Statement .gapF4 := rfl
theorem pushAF : Statement .pushAF := rfl
theorem orD8 (v : Byte) : Statement (.orD8 v) := rfl
theorem rst30 : Statement .rst30 := rfl
theorem ldHLSPE8 (e : Byte) : Statement (.ldHLSPE8 e) := rfl
theorem ldSPHL : Statement .ldSPHL := rfl
theorem ldAAtA16 (a : Word) : Statement (.ldAAtA16 a) := rfl
theorem ei : Statement .ei := rfl
theorem gapFC : Statement .gapFC := rfl
theorem gapFD : Statement .gapFD := rfl
theorem cpD8 (v : Byte) : Statement (.cpD8 v) := rfl
theorem rst38 : Statement .rst38 := rfl

end Sys2Proof.Laws.WellFormedCode
end

