-- ==== Sys2Proof/Laws/Stores.lean ====
section
/-! SUPPORT. The bytes an operation stores, in the form statements use, and when states agree outside memory and sink. -/

namespace Sys2Proof.Machine

/-- One byte written (R54, R56), from whatever the final state shares memory and sink with. -/
theorem storesBytes_one {s t : State} {a : Word} {v : Byte} (hm : t.mem = (s.memWrite a v).mem)
    (hs : t.sink = (s.memWrite a v).sink) : StoresBytes s t [(a, v)] := by
  constructor
  · intro x
    rw [State.memRead_congr hm, State.memRead_memWrite]
    by_cases h : x = a
    · subst h; by_cases hx : x = sinkAddress <;> simp [hx]
    · have : a ≠ x := fun e => h e.symm
      simp [h, this]
  · rw [hs, State.memWrite_sink]; by_cases h : a = sinkAddress <;> simp [h]

/-- Two bytes written at different addresses. -/
theorem storesBytes_two {s t : State} {a b : Word} {v w : Byte} (hab : a ≠ b)
    (hm : t.mem = ((s.memWrite a v).memWrite b w).mem) (hs : t.sink = ((s.memWrite a v).memWrite b w).sink) :
    StoresBytes s t [(a, v), (b, w)] := by
  constructor
  · intro x
    rw [State.memRead_congr hm, State.memRead_memWrite, State.memRead_memWrite]
    by_cases h : x = a
    · subst h; by_cases hx : x = sinkAddress <;> simp [hx, hab]
      intro e1 e2; exact absurd e1.symm e2
    · have h' : a ≠ x := fun e => h e.symm
      by_cases hb : x = b
      · subst hb; by_cases hx : x = sinkAddress <;> simp [hx, h']
        intro e1 e2; exact absurd e1.symm e2
      · have hb' : b ≠ x := fun e => hb e.symm
        simp [h, h', hb, hb']
  · rw [hs, State.memWrite_sink, State.memWrite_sink]
    by_cases ha : a = sinkAddress <;> by_cases hb : b = sinkAddress <;> simp_all

/-- `push16` (R183) of a state that shares SP, memory and sink with `s`. -/
theorem storesBytes_push16 {s u t : State} (v : Word) (hsp : u.sp = s.sp) (hum : u.mem = s.mem) (hus : u.sink = s.sink)
    (hm : t.mem = (u.push16 v).mem) (hs : t.sink = (u.push16 v).sink) :
    StoresBytes s t [(s.sp - 1#16, hiByte v), (s.sp - 2#16, loByte v)] := by
  refine storesBytes_two (by bv_omega) (hm.trans ?_) (hs.trans ?_)
  all_goals
    unfold State.push16 State.memWrite
    rw [hsp]
    split <;> split <;> simp [hum, hus]

theorem sameOutsideMemory_of {s t : State} (ha : t.a = s.a) (hf : t.f = s.f) (hb : t.b = s.b) (hc : t.c = s.c) (hd : t.d = s.d)
    (he : t.e = s.e) (hh : t.h = s.h) (hl : t.l = s.l) (hsp : t.sp = s.sp) (hpc : t.pc = s.pc)
    (hfm : t.faultMark = s.faultMark) (hcfg : t.cfg = s.cfg) : SameOutsideMemory s t := by
  unfold SameOutsideMemory; cases s; cases t; simp_all

/-- A set of equal fields makes equal states. -/
theorem State.eq_of {s t : State} (ha : s.a = t.a) (hf : s.f = t.f) (hb : s.b = t.b) (hc : s.c = t.c) (hd : s.d = t.d)
    (he : s.e = t.e) (hh : s.h = t.h) (hl : s.l = t.l) (hsp : s.sp = t.sp) (hpc : s.pc = t.pc) (hm : s.mem = t.mem)
    (hs : s.sink = t.sink) (hfm : s.faultMark = t.faultMark) (hcfg : s.cfg = t.cfg) : s = t := by
  cases s; cases t; simp_all

end Sys2Proof.Machine
end

