-- ==== Sys2Proof/Tests/Slice0.lean ====
section
/-! SUPPORT. Tests: well-formedness refuses ill-formed codes, the decoder reads every opcode byte of the field tables of
30_encoding.md, one step on the worked vectors of 95_test_vectors.md (named in each comment), and for every statement with hypotheses a
state and operands that meet them. Expected results are the spec's. -/

namespace Sys2Proof.Tests
open Sys2Proof Sys2Proof.Machine

/-- The construction state with `bytes` loaded at `pc` and PC there. -/
def code (pc : Word) (bytes : List Byte) : State :=
  { ((State.construct Config.default).load pc bytes) with pc := pc }

/-- What one step leaves, as seen by `f`; nothing if it stops. -/
def after {α : Type} (s : State) (f : State → α) : Option α :=
  match step s with
  | .next t => some (f t)
  | .fault _ => none
  | .refused _ => none

/-! ### Well-formed codes -/

theorem test_no_bytes_is_ill_formed : codeWellFormed [] = false := by decide
theorem test_missing_immediate_is_ill_formed : codeWellFormed [0x3E#8] = false := by decide
theorem test_half_an_address_is_ill_formed : codeWellFormed [0xC3#8, 0x00#8] = false := by decide
theorem test_extra_byte_is_ill_formed : codeWellFormed [0x10#8, 0x00#8] = false := by decide
theorem test_full_code_is_well_formed : codeWellFormed [0xC3#8, 0x50#8, 0x01#8] = true := by decide

/-! ### Decoding: every opcode byte, with 0x34 and 0x12 after it (30_encoding.md, the opcode map) -/

/-- The sixteen instructions of one row of the opcode map. -/
def mapRow (hi : Byte) : List Instr :=
  [0x0#8, 0x1#8, 0x2#8, 0x3#8, 0x4#8, 0x5#8, 0x6#8, 0x7#8, 0x8#8, 0x9#8, 0xA#8, 0xB#8, 0xC#8, 0xD#8, 0xE#8, 0xF#8].map
    (fun lo => decodeOp (hi + lo) 0x34#8 0x12#8)

theorem test_map_row_0 : mapRow 0x00#8 =
    [.nop, .ldBCD16 0x1234#16, .ldAtBCA, .incBC, .incB, .decB, .ldBD8 0x34#8, .rlca, .ldAtA16SP 0x1234#16,
    .addHLBC, .ldAAtBC, .decBC, .incC, .decC, .ldCD8 0x34#8, .rrca] := by rfl

theorem test_map_row_1 : mapRow 0x10#8 =
    [.stop, .ldDED16 0x1234#16, .ldAtDEA, .incDE, .incD, .decD, .ldDD8 0x34#8, .rla, .jrE8 0x34#8, .addHLDE,
    .ldAAtDE, .decDE, .incE, .decE, .ldED8 0x34#8, .rra] := by rfl

theorem test_map_row_2 : mapRow 0x20#8 =
    [.jrNZE8 0x34#8, .ldHLD16 0x1234#16, .ldAtHLIncA, .incHL, .incH, .decH, .ldHD8 0x34#8, .daa, .jrZE8 0x34#8,
    .addHLHL, .ldAAtHLInc, .decHL, .incL, .decL, .ldLD8 0x34#8, .cpl] := by rfl

theorem test_map_row_3 : mapRow 0x30#8 =
    [.jrNCE8 0x34#8, .ldSPD16 0x1234#16, .ldAtHLDecA, .incSP, .incAtHL, .decAtHL, .ldAtHLD8 0x34#8, .scf,
    .jrCE8 0x34#8, .addHLSP, .ldAAtHLDec, .decSP, .incA, .decA, .ldAD8 0x34#8, .ccf] := by rfl

theorem test_map_row_4 : mapRow 0x40#8 =
    [.ldBB, .ldBC, .ldBD, .ldBE, .ldBH, .ldBL, .ldBAtHL, .ldBA, .ldCB, .ldCC, .ldCD, .ldCE, .ldCH, .ldCL,
    .ldCAtHL, .ldCA] := by rfl

theorem test_map_row_5 : mapRow 0x50#8 =
    [.ldDB, .ldDC, .ldDD, .ldDE, .ldDH, .ldDL, .ldDAtHL, .ldDA, .ldEB, .ldEC, .ldED, .ldEE, .ldEH, .ldEL,
    .ldEAtHL, .ldEA] := by rfl

theorem test_map_row_6 : mapRow 0x60#8 =
    [.ldHB, .ldHC, .ldHD, .ldHE, .ldHH, .ldHL, .ldHAtHL, .ldHA, .ldLB, .ldLC, .ldLD, .ldLE, .ldLH, .ldLL,
    .ldLAtHL, .ldLA] := by rfl

theorem test_map_row_7 : mapRow 0x70#8 =
    [.ldAtHLB, .ldAtHLC, .ldAtHLD, .ldAtHLE, .ldAtHLH, .ldAtHLL, .halt, .ldAtHLA, .ldAB, .ldAC, .ldAD, .ldAE,
    .ldAH, .ldAL, .ldAAtHL, .ldAA] := by rfl

theorem test_map_row_8 : mapRow 0x80#8 =
    [.addAB, .addAC, .addAD, .addAE, .addAH, .addAL, .addAAtHL, .addAA, .adcAB, .adcAC, .adcAD, .adcAE, .adcAH,
    .adcAL, .adcAAtHL, .adcAA] := by rfl

theorem test_map_row_9 : mapRow 0x90#8 =
    [.subB, .subC, .subD, .subE, .subH, .subL, .subAtHL, .subA, .sbcAB, .sbcAC, .sbcAD, .sbcAE, .sbcAH, .sbcAL,
    .sbcAAtHL, .sbcAA] := by rfl

theorem test_map_row_A : mapRow 0xA0#8 =
    [.andB, .andC, .andD, .andE, .andH, .andL, .andAtHL, .andA, .xorB, .xorC, .xorD, .xorE, .xorH, .xorL,
    .xorAtHL, .xorA] := by rfl

theorem test_map_row_B : mapRow 0xB0#8 =
    [.orB, .orC, .orD, .orE, .orH, .orL, .orAtHL, .orA, .cpB, .cpC, .cpD, .cpE, .cpH, .cpL, .cpAtHL, .cpA] := by rfl

theorem test_map_row_C : mapRow 0xC0#8 =
    [.retNZ, .popBC, .jpNZA16 0x1234#16, .jpA16 0x1234#16, .callNZA16 0x1234#16, .pushBC, .addAD8 0x34#8,
    .rst00, .retZ, .ret, .jpZA16 0x1234#16, .prefixCB, .callZA16 0x1234#16, .callA16 0x1234#16, .adcAD8
    0x34#8, .rst08] := by rfl

theorem test_map_row_D : mapRow 0xD0#8 =
    [.retNC, .popDE, .jpNCA16 0x1234#16, .gapD3, .callNCA16 0x1234#16, .pushDE, .subD8 0x34#8, .rst10, .retC,
    .reti, .jpCA16 0x1234#16, .gapDB, .callCA16 0x1234#16, .gapDD, .sbcAD8 0x34#8, .rst18] := by rfl

theorem test_map_row_E : mapRow 0xE0#8 =
    [.ldhAtA8A 0x34#8, .popHL, .ldAtCA, .gapE3, .gapE4, .pushHL, .andD8 0x34#8, .rst20, .addSPE8 0x34#8, .jpHL,
    .ldAtA16A 0x1234#16, .gapEB, .gapEC, .gapED, .xorD8 0x34#8, .rst28] := by rfl

theorem test_map_row_F : mapRow 0xF0#8 =
    [.ldhAAtA8 0x34#8, .popAF, .ldAAtC, .di, .gapF4, .pushAF, .orD8 0x34#8, .rst30, .ldHLSPE8 0x34#8, .ldSPHL,
    .ldAAtA16 0x1234#16, .ei, .gapFC, .gapFD, .cpD8 0x34#8, .rst38] := by rfl

/-! ### Decoding: words written bit by bit, one or more of each family -/

/-- Block 00, r = D (010), INC r. R82. -/
theorem test_bits_inc_d : decode [0b00010100#8] = .instr .incD [] := by rfl
/-- Block 00, rr = SP (11), ADD HL,rr. R83. -/
theorem test_bits_add_hl_sp : decode [0b00111001#8] = .instr .addHLSP [] := by rfl
/-- Block 01, destination (HL) (110), source L (101). R82. -/
theorem test_bits_ld_at_hl_l : decode [0b01110101#8] = .instr .ldAtHLL [] := by rfl
/-- Block 10, operation 011 (SBC), source (HL) (110). R86. -/
theorem test_bits_sbc_at_hl : decode [0b10011110#8] = .instr .sbcAAtHL [] := by rfl
/-- Block 11, operation 111 (CP), immediate. R86. -/
theorem test_bits_cp_d8 : decode [0b11111110#8, 0x40#8] = .instr (.cpD8 0x40#8) [] := by rfl
/-- Block 11, condition NC (10), CALL; low byte first. R85, R88. -/
theorem test_bits_call_nc : decode [0b11010100#8, 0x34#8, 0x12#8] = .instr (.callNCA16 0x1234#16) [] := by rfl
/-- Block 11, pair AF (11), PUSH. R84. -/
theorem test_bits_push_af : decode [0b11110101#8] = .instr .pushAF [] := by rfl
/-- Block 11, vector 5, RST. R87. -/
theorem test_bits_rst_28 : decode [0b11101111#8] = .instr .rst28 [] := by rfl
/-- Block 00, rotate 011: RRA. -/
theorem test_bits_rra : decode [0b00011111#8] = .instr .rra [] := by rfl
/-- Block 11, high page store; the byte after it is left over. R88. -/
theorem test_bits_ldh_store : decode [0b11100000#8, 0x01#8, 0x76#8] = .instr (.ldhAtA8A 0x01#8) [0x76#8] := by rfl
/-- Block 01 with both fields (HL): HALT. R89. -/
theorem test_bits_halt : decode [0b01110110#8] = .instr .halt [] := by rfl
/-- 0xCB takes no operand. R107. -/
theorem test_bits_prefix_cb : decode [0b11001011#8, 0x37#8] = .instr .prefixCB [0x37#8] := by rfl

theorem test_decode_rejects_nothing : decode [] = .noOpcode := by rfl
theorem test_decode_rejects_short_d8 : decode [0x06#8] = .missingImmediate 0x06#8 := by rfl
theorem test_decode_rejects_short_a16 : decode [0xCD#8, 0x11#8] = .missingImmediate 0xCD#8 := by rfl

/-! ### The host's numbering of a word: the first byte in the low bits -/

theorem test_table_word : decodeTableWord 24 0x0150C3 = some (.jpA16 0x0150#16) := by rfl
theorem test_short_table_word : decodeTableWord 8 0x0150C3 = some (.jpA16 0x0000#16) := by rfl
theorem test_fetch_word_runs_next : after (State.reset.withFetchWord 24 0x0150C3) (fun t => t.pc) = some 0x0150#16 := by decide

/-! ### Memory -/

/-- Addresses rise, and a byte 0x00 is not listed. -/
theorem test_memory_is_canonical :
    Memory.write (Memory.write (Memory.write [] 0xC001 0x02#8) 0xC000 0x01#8) 0xC002 0x00#8 = [(0xC000, 0x01#8), (0xC001, 0x02#8)] := by
  decide
theorem test_writing_zero_unlists :
    Memory.write [(0xC000, 0x01#8), (0xC001, 0x02#8)] 0xC000 0x00#8 = [(0xC001, 0x02#8)] := by
  decide
/-- PC wraps from 0xFFFF to 0x0000 between the bytes of one instruction. R30. -/
theorem test_fetch_wraps : after { (code 0xFFFF#16 [0xC3#8, 0x50#8, 0x01#8]) with a := 0x01#8 }
    (fun t => t.pc) = some 0x0150#16 := by
  decide

/-! ### One step, on vectors of 95_test_vectors.md -/

/-- V1, R105: NOP. -/
theorem test_v1_nop :
    after (code 0x0100#16 [0x00#8]) (fun t => t.pc) =
      some 0x0101#16 := by decide
/-- V3, R106: gap 0xD3, fault. -/
theorem test_v3_gap_0xd3_fault :
    after { (code 0x0100#16 [0xD3#8]) with a := 0x12#8, cfg := { Config.default with undefOp := .fault } } (fun t => (t.faultMark, t.pc)) =
      some (some (.undefinedOpcode 0xD3#8), 0x0100#16) := by decide
/-- V4, R106: gap 0xFD at 0xFFFF. -/
theorem test_v4_gap_0xfd_at_0xffff :
    after (code 0xFFFF#16 [0xFD#8]) (fun t => t.pc) =
      some 0x0000#16 := by decide
/-- V5, R107: PREFIX CB then 0x37. -/
theorem test_v5_prefix_cb_then_0x37 :
    after (code 0x0100#16 [0xCB#8, 0x37#8]) (fun t => t.pc) =
      some 0x0101#16 := by decide
/-- V7, R108: STOP then 0x00. -/
theorem test_v7_stop_then_0x00 :
    after (code 0x0100#16 [0x10#8, 0x00#8]) (fun t => t.pc) =
      some 0x0101#16 := by decide
/-- V9, R109: HALT, fault. -/
theorem test_v9_halt_fault :
    after { (code 0x0100#16 [0x76#8]) with cfg := { Config.default with nongoalOp := .fault } } (fun t => (t.faultMark, t.pc)) =
      some (some (.unimplementedOpcode 0x76#8), 0x0100#16) := by decide
/-- V10, R110: DI. -/
theorem test_v10_di :
    after (code 0x0100#16 [0xF3#8]) (fun t => t.pc) =
      some 0x0101#16 := by decide
/-- V12, R111: EI with UNDEF fault only. -/
theorem test_v12_ei_with_undef_fault_only :
    after { (code 0x0100#16 [0xFB#8]) with cfg := { Config.default with undefOp := .fault } } (fun t => t.pc) =
      some 0x0101#16 := by decide
/-- V14, R120: INC B. -/
theorem test_v14_inc_b :
    after { (code 0x0100#16 [0x04#8]) with b := 0xFF#8, c := 0x00#8 } (fun t => (t.f, t.b, t.pc)) =
      some (0x80#8, 0x00#8, 0x0101#16) := by decide
/-- V16, R120: INC A, lr35902. -/
theorem test_v16_inc_a_lr35902 :
    after { (code 0x0100#16 [0x3C#8]) with a := 0x0F#8, f := 0x70#8, cfg := { Config.default with incDec8Flags := .lr35902 } } (fun t => (t.a, t.f, t.pc)) =
      some (0x10#8, 0x30#8, 0x0101#16) := by decide
/-- V17, R120: INC L, pair half kept. -/
theorem test_v17_inc_l_pair_half_kept :
    after { (code 0x0100#16 [0x2C#8]) with h := 0x00#8, l := 0xFF#8 } (fun t => (t.f, t.l, t.pc)) =
      some (0x80#8, 0x00#8, 0x0101#16) := by decide
/-- V18, R120: INC H, lr35902. -/
theorem test_v18_inc_h_lr35902 :
    after { (code 0x0100#16 [0x24#8]) with h := 0xFF#8, l := 0x34#8, f := 0x50#8, cfg := { Config.default with incDec8Flags := .lr35902 } } (fun t => (t.f, t.h, t.pc)) =
      some (0xB0#8, 0x00#8, 0x0101#16) := by decide
/-- V19, R121: DEC C to zero. -/
theorem test_v19_dec_c_to_zero :
    after { (code 0x0100#16 [0x0D#8]) with c := 0x01#8, f := 0x00#8 } (fun t => (t.f, t.c, t.pc)) =
      some (0x80#8, 0x00#8, 0x0101#16) := by decide
/-- V22, R121: DEC D wraps, lr35902. -/
theorem test_v22_dec_d_wraps_lr35902 :
    after { (code 0x0100#16 [0x15#8]) with d := 0x00#8, f := 0x90#8, cfg := { Config.default with incDec8Flags := .lr35902 } } (fun t => (t.f, t.d, t.pc)) =
      some (0x70#8, 0xFF#8, 0x0101#16) := by decide
/-- V24, R122: INC (HL). -/
theorem test_v24_inc_at_hl :
    after { ((code 0x0100#16 [0x34#8]).load 0xC000#16 [0xFF#8]) with h := 0xC0#8, l := 0x00#8 } (fun t => (t.f, t.pc, t.memRead 0xC000#16)) =
      some (0x80#8, 0x0101#16, 0x00#8) := by decide
/-- V25, R122: INC (HL), lr35902. -/
theorem test_v25_inc_at_hl_lr35902 :
    after { ((code 0x0100#16 [0x34#8]).load 0xC000#16 [0x0F#8]) with h := 0xC0#8, l := 0x00#8, cfg := { Config.default with incDec8Flags := .lr35902 } } (fun t => (t.f, t.pc, t.memRead 0xC000#16)) =
      some (0x20#8, 0x0101#16, 0x10#8) := by decide
/-- V26, R123: DEC (HL) at 0xFF01. -/
theorem test_v26_dec_at_hl_at_0xff01 :
    after { (code 0x0100#16 [0x35#8]) with h := 0xFF#8, l := 0x01#8 } (fun t => (t.pc, t.sink)) =
      some (0x0101#16, [0xFF#8]) := by decide
/-- V27, R124: INC BC wraps. -/
theorem test_v27_inc_bc_wraps :
    after { (code 0x0100#16 [0x03#8]) with b := 0xFF#8, c := 0xFF#8, f := 0x00#8 } (fun t => (t.b, t.c, t.pc)) =
      some (0x00#8, 0x00#8, 0x0101#16) := by decide
/-- V28, R124: INC DE. -/
theorem test_v28_inc_de :
    after { (code 0x0100#16 [0x13#8]) with d := 0x12#8, e := 0xFF#8 } (fun t => (t.d, t.e, t.pc)) =
      some (0x13#8, 0x00#8, 0x0101#16) := by decide
/-- V29, R125: DEC SP wraps. -/
theorem test_v29_dec_sp_wraps :
    after { (code 0x0100#16 [0x3B#8]) with sp := 0x0000#16 } (fun t => (t.sp, t.pc)) =
      some (0xFFFF#16, 0x0101#16) := by decide
/-- V30, R125: DEC HL. -/
theorem test_v30_dec_hl :
    after { (code 0x0100#16 [0x2B#8]) with h := 0x01#8, l := 0x00#8, f := 0xF0#8 } (fun t => (t.h, t.l, t.pc)) =
      some (0x00#8, 0xFF#8, 0x0101#16) := by decide
/-- V32, R131: ADD A,B. -/
theorem test_v32_add_a_b :
    after { (code 0x0100#16 [0x80#8]) with a := 0x3A#8, b := 0xC6#8 } (fun t => (t.a, t.f, t.pc)) =
      some (0x00#8, 0xB0#8, 0x0101#16) := by decide
/-- V33, R131: ADD A,d8. -/
theorem test_v33_add_a_d8 :
    after { (code 0x0100#16 [0xC6#8, 0x01#8]) with a := 0x0F#8 } (fun t => (t.a, t.f, t.pc)) =
      some (0x10#8, 0x20#8, 0x0102#16) := by decide
/-- V35, R131: ADD A,(HL). -/
theorem test_v35_add_a_at_hl :
    after { ((code 0x0100#16 [0x86#8]).load 0xC000#16 [0x12#8]) with a := 0x3C#8, h := 0xC0#8, l := 0x00#8 } (fun t => (t.a, t.pc)) =
      some (0x4E#8, 0x0101#16) := by decide
/-- V36, R132: ADC A,E. -/
theorem test_v36_adc_a_e :
    after { (code 0x0100#16 [0x8B#8]) with a := 0xE1#8, e := 0x0F#8, f := 0x10#8 } (fun t => (t.a, t.f, t.pc)) =
      some (0xF1#8, 0x20#8, 0x0101#16) := by decide
/-- V38, R132: ADC A,d8 no carry-in. -/
theorem test_v38_adc_a_d8_no_carry_in :
    after { (code 0x0100#16 [0xCE#8, 0x3B#8]) with a := 0xE1#8, f := 0x00#8 } (fun t => (t.a, t.f, t.pc)) =
      some (0x1C#8, 0x10#8, 0x0102#16) := by decide
/-- V40, R133: SUB (HL). -/
theorem test_v40_sub_at_hl :
    after { ((code 0x0100#16 [0x96#8]).load 0xC000#16 [0x3E#8]) with a := 0x3E#8, h := 0xC0#8, l := 0x00#8 } (fun t => (t.a, t.f, t.pc)) =
      some (0x00#8, 0xC0#8, 0x0101#16) := by decide
/-- V41, R133: SUB d8 underflow. -/
theorem test_v41_sub_d8_underflow :
    after { (code 0x0100#16 [0xD6#8, 0x01#8]) with a := 0x00#8 } (fun t => (t.a, t.f, t.pc)) =
      some (0xFF#8, 0x70#8, 0x0102#16) := by decide
/-- V44, R134: SBC A,H. -/
theorem test_v44_sbc_a_h :
    after { (code 0x0100#16 [0x9C#8]) with a := 0x3B#8, h := 0x2A#8, f := 0x10#8 } (fun t => (t.a, t.f, t.pc)) =
      some (0x10#8, 0x40#8, 0x0101#16) := by decide
/-- V45, R134: SBC A,d8, 0xFF with carry. -/
theorem test_v45_sbc_a_d8_0xff_with_carry :
    after { (code 0x0100#16 [0xDE#8, 0xFF#8]) with a := 0x3B#8, f := 0x10#8 } (fun t => (t.f, t.pc)) =
      some (0x70#8, 0x0102#16) := by decide
/-- V47, R134: SBC A,d8, no carry-in. -/
theorem test_v47_sbc_a_d8_no_carry_in :
    after { (code 0x0100#16 [0xDE#8, 0x4F#8]) with a := 0x3B#8, f := 0x00#8 } (fun t => (t.a, t.f, t.pc)) =
      some (0xEC#8, 0x70#8, 0x0102#16) := by decide
/-- V48, R135: AND L. -/
theorem test_v48_and_l :
    after { (code 0x0100#16 [0xA5#8]) with a := 0x5A#8, l := 0x3F#8, f := 0x10#8 } (fun t => (t.a, t.f, t.pc)) =
      some (0x1A#8, 0x20#8, 0x0101#16) := by decide
/-- V50, R136: XOR A. -/
theorem test_v50_xor_a :
    after { (code 0x0100#16 [0xAF#8]) with a := 0xFF#8, f := 0x70#8 } (fun t => (t.a, t.f, t.pc)) =
      some (0x00#8, 0x80#8, 0x0101#16) := by decide
/-- V52, R137: OR d8, carry cleared. -/
theorem test_v52_or_d8_carry_cleared :
    after { (code 0x0100#16 [0xF6#8, 0x00#8]) with a := 0x5A#8, f := 0x70#8 } (fun t => (t.f, t.pc)) =
      some (0x00#8, 0x0102#16) := by decide
/-- V54, R138: CP B. -/
theorem test_v54_cp_b :
    after { (code 0x0100#16 [0xB8#8]) with a := 0x3C#8, b := 0x2F#8 } (fun t => (t.f, t.pc)) =
      some (0x60#8, 0x0101#16) := by decide
/-- V55, R138: CP d8 equal. -/
theorem test_v55_cp_d8_equal :
    after { (code 0x0100#16 [0xFE#8, 0x3C#8]) with a := 0x3C#8 } (fun t => (t.f, t.pc)) =
      some (0xC0#8, 0x0102#16) := by decide
/-- V56, R138: CP d8 greater. -/
theorem test_v56_cp_d8_greater :
    after { (code 0x0100#16 [0xFE#8, 0x40#8]) with a := 0x3C#8 } (fun t => (t.f, t.pc)) =
      some (0x50#8, 0x0102#16) := by decide
/-- V58, R140: CPL keeps Z, CY. -/
theorem test_v58_cpl_keeps_z_cy :
    after { (code 0x0100#16 [0x2F#8]) with a := 0x35#8, f := 0x90#8 } (fun t => (t.a, t.f, t.pc)) =
      some (0xCA#8, 0xF0#8, 0x0101#16) := by decide
/-- V59, R141: SCF. -/
theorem test_v59_scf :
    after { (code 0x0100#16 [0x37#8]) with f := 0xE0#8 } (fun t => (t.f, t.pc)) =
      some (0x90#8, 0x0101#16) := by decide
/-- V60, R142: CCF set to clear. -/
theorem test_v60_ccf_set_to_clear :
    after { (code 0x0100#16 [0x3F#8]) with f := 0x90#8 } (fun t => (t.f, t.pc)) =
      some (0x80#8, 0x0101#16) := by decide
/-- V62, R143: ADD HL,BC. -/
theorem test_v62_add_hl_bc :
    after { (code 0x0100#16 [0x09#8]) with h := 0x8A#8, l := 0x23#8, b := 0x06#8, c := 0x05#8, f := 0x80#8 } (fun t => (t.f, t.h, t.l, t.pc)) =
      some (0xA0#8, 0x90#8, 0x28#8, 0x0101#16) := by decide
/-- V64, R143: ADD HL,SP wraps. -/
theorem test_v64_add_hl_sp_wraps :
    after { (code 0x0100#16 [0x39#8]) with h := 0xFF#8, l := 0xFF#8, sp := 0x0001#16 } (fun t => (t.f, t.h, t.l, t.pc)) =
      some (0x30#8, 0x00#8, 0x00#8, 0x0101#16) := by decide
/-- V66, R144: ADD SP,-1 from 0. -/
theorem test_v66_add_sp_minus_1_from_0 :
    after { (code 0x0100#16 [0xE8#8, 0xFF#8]) with f := 0xF0#8, sp := 0x0000#16 } (fun t => (t.f, t.sp, t.pc)) =
      some (0x00#8, 0xFFFF#16, 0x0102#16) := by decide
/-- V67, R144: ADD SP,-1 from 1. -/
theorem test_v67_add_sp_minus_1_from_1 :
    after { (code 0x0100#16 [0xE8#8, 0xFF#8]) with sp := 0x0001#16 } (fun t => (t.f, t.sp, t.pc)) =
      some (0x30#8, 0x0000#16, 0x0102#16) := by decide
/-- V72, R145: DAA lr35902 0x9A. -/
theorem test_v72_daa_lr35902_0x9a :
    after { (code 0x0100#16 [0x27#8]) with a := 0x9A#8, f := 0x00#8, cfg := { Config.default with daa := .lr35902 } } (fun t => (t.a, t.f, t.pc)) =
      some (0x00#8, 0x90#8, 0x0101#16) := by decide
/-- V73, R145: DAA lr35902 after 10-01. -/
theorem test_v73_daa_lr35902_after_10_minus_01 :
    after { (code 0x0100#16 [0x27#8]) with a := 0x0F#8, f := 0x60#8, cfg := { Config.default with daa := .lr35902 } } (fun t => (t.a, t.f, t.pc)) =
      some (0x09#8, 0x40#8, 0x0101#16) := by decide
/-- V75, R160: LD B,C. -/
theorem test_v75_ld_b_c :
    after { (code 0x0100#16 [0x41#8]) with b := 0x00#8, c := 0x7E#8 } (fun t => (t.b, t.pc)) =
      some (0x7E#8, 0x0101#16) := by decide
/-- V77, R161: LD H,(HL). -/
theorem test_v77_ld_h_at_hl :
    after { ((code 0x0100#16 [0x66#8]).load 0xC000#16 [0x12#8]) with h := 0xC0#8, l := 0x00#8 } (fun t => (t.h, t.pc)) =
      some (0x12#8, 0x0101#16) := by decide
/-- V78, R162: LD (HL),L. -/
theorem test_v78_ld_at_hl_l :
    after { (code 0x0100#16 [0x75#8]) with h := 0xC0#8, l := 0xAB#8 } (fun t => (t.pc, t.memRead 0xC0AB#16)) =
      some (0x0101#16, 0xAB#8) := by decide
/-- V79, R162: LD (HL),A at 0xFF01. -/
theorem test_v79_ld_at_hl_a_at_0xff01 :
    after { (code 0x0100#16 [0x77#8]) with a := 0x41#8, h := 0xFF#8, l := 0x01#8 } (fun t => (t.pc, t.sink)) =
      some (0x0101#16, [0x41#8]) := by decide
/-- V80, R163: LD E,d8. -/
theorem test_v80_ld_e_d8 :
    after (code 0x0100#16 [0x1E#8, 0x99#8]) (fun t => (t.e, t.pc)) =
      some (0x99#8, 0x0102#16) := by decide
/-- V81, R164: LD (HL),d8. -/
theorem test_v81_ld_at_hl_d8 :
    after { (code 0x0100#16 [0x36#8, 0x5A#8]) with h := 0xD0#8, l := 0x00#8 } (fun t => (t.pc, t.memRead 0xD000#16)) =
      some (0x0102#16, 0x5A#8) := by decide
/-- V82, R165: LD (BC),A. -/
theorem test_v82_ld_bc_a :
    after { (code 0x0100#16 [0x02#8]) with a := 0x3F#8, b := 0xC1#8, c := 0x23#8 } (fun t => (t.pc, t.memRead 0xC123#16)) =
      some (0x0101#16, 0x3F#8) := by decide
/-- V83, R166: LD (DE),A. -/
theorem test_v83_ld_de_a :
    after { (code 0x0100#16 [0x12#8]) with a := 0x3F#8, d := 0xFF#8, e := 0x01#8 } (fun t => (t.pc, t.sink)) =
      some (0x0101#16, [0x3F#8]) := by decide
/-- V84, R167: LD A,(BC). -/
theorem test_v84_ld_a_bc :
    after { ((code 0x0100#16 [0x0A#8]).load 0xC123#16 [0x9C#8]) with b := 0xC1#8, c := 0x23#8 } (fun t => (t.a, t.pc)) =
      some (0x9C#8, 0x0101#16) := by decide
/-- V85, R168: LD A,(DE) of 0xFF01. -/
theorem test_v85_ld_a_de_of_0xff01 :
    after { ((code 0x0100#16 [0x1A#8]).load 0xFF01#16 [0x7B#8]) with a := 0x11#8, d := 0xFF#8, e := 0x01#8 } (fun t => (t.a, t.pc)) =
      some (0x7B#8, 0x0101#16) := by decide
/-- V86, R169: LD (HL+),A wraps. -/
theorem test_v86_ld_hli_a_wraps :
    after { (code 0x0100#16 [0x22#8]) with a := 0x56#8, h := 0xFF#8, l := 0xFF#8 } (fun t => (t.h, t.l, t.pc, t.memRead 0xFFFF#16)) =
      some (0x00#8, 0x00#8, 0x0101#16, 0x56#8) := by decide
/-- V87, R170: LD (HL-),A. -/
theorem test_v87_ld_hld_a :
    after { (code 0x0100#16 [0x32#8]) with a := 0x56#8, h := 0xC0#8, l := 0x00#8 } (fun t => (t.h, t.l, t.pc, t.memRead 0xC000#16)) =
      some (0xBF#8, 0xFF#8, 0x0101#16, 0x56#8) := by decide
/-- V88, R171: LD A,(HL+). -/
theorem test_v88_ld_a_hli :
    after { ((code 0x0100#16 [0x2A#8]).load 0xC0FF#16 [0x21#8]) with h := 0xC0#8, l := 0xFF#8 } (fun t => (t.a, t.h, t.l, t.pc)) =
      some (0x21#8, 0xC1#8, 0x00#8, 0x0101#16) := by decide
/-- V89, R172: LD A,(HL-) wraps. -/
theorem test_v89_ld_a_hld_wraps :
    after { ((code 0x0100#16 [0x3A#8]).load 0x0000#16 [0x3A#8]) with h := 0x00#8, l := 0x00#8 } (fun t => (t.a, t.h, t.l, t.pc)) =
      some (0x3A#8, 0xFF#8, 0xFF#8, 0x0101#16) := by decide
/-- V90, R173: LDH (01),A. -/
theorem test_v90_ldh_01_a :
    after { (code 0x0100#16 [0xE0#8, 0x01#8]) with a := 0x48#8 } (fun t => (t.pc, t.sink)) =
      some (0x0102#16, [0x48#8]) := by decide
/-- V91, R173: LDH (80),A. -/
theorem test_v91_ldh_80_a :
    after { (code 0x0100#16 [0xE0#8, 0x80#8]) with a := 0x48#8 } (fun t => (t.pc, t.memRead 0xFF80#16)) =
      some (0x0102#16, 0x48#8) := by decide
/-- V92, R174: LDH A,(FF). -/
theorem test_v92_ldh_a_ff :
    after ((code 0x0100#16 [0xF0#8, 0xFF#8]).load 0xFFFF#16 [0x1F#8]) (fun t => (t.a, t.pc)) =
      some (0x1F#8, 0x0102#16) := by decide
/-- V93, R175: LD (C),A to 0xFF01. -/
theorem test_v93_ld_c_a_to_0xff01 :
    after { (code 0x0100#16 [0xE2#8]) with a := 0x21#8, c := 0x01#8 } (fun t => (t.pc, t.sink)) =
      some (0x0101#16, [0x21#8]) := by decide
/-- V94, R176: LD A,(C). -/
theorem test_v94_ld_a_c :
    after { ((code 0x0100#16 [0xF2#8]).load 0xFF44#16 [0x90#8]) with c := 0x44#8 } (fun t => (t.a, t.pc)) =
      some (0x90#8, 0x0101#16) := by decide
/-- V95, R177: LD (a16),A. -/
theorem test_v95_ld_a16_a :
    after { (code 0x0100#16 [0xEA#8, 0x00#8, 0xC0#8]) with a := 0x77#8 } (fun t => (t.pc, t.memRead 0xC000#16)) =
      some (0x0103#16, 0x77#8) := by decide
/-- V96, R178: LD A,(a16). -/
theorem test_v96_ld_a_a16 :
    after ((code 0x0100#16 [0xFA#8, 0x34#8, 0x12#8]).load 0x1234#16 [0xAB#8]) (fun t => (t.a, t.pc)) =
      some (0xAB#8, 0x0103#16) := by decide
/-- V98, R179: LD HL,d16. -/
theorem test_v98_ld_hl_d16 :
    after (code 0x0100#16 [0x21#8, 0x34#8, 0x12#8]) (fun t => (t.h, t.l, t.pc)) =
      some (0x12#8, 0x34#8, 0x0103#16) := by decide
/-- V99, R180: LD (a16),SP. -/
theorem test_v99_ld_a16_sp :
    after { (code 0x0100#16 [0x08#8, 0x00#8, 0xC1#8]) with sp := 0xFFF8#16 } (fun t => (t.pc, t.memRead 0xC100#16, t.memRead 0xC101#16)) =
      some (0x0103#16, 0xF8#8, 0xFF#8) := by decide
/-- V100, R180: LD (a16),SP at 0xFFFF. -/
theorem test_v100_ld_a16_sp_at_0xffff :
    after { (code 0x0100#16 [0x08#8, 0xFF#8, 0xFF#8]) with sp := 0xABCD#16 } (fun t => (t.pc, t.memRead 0x0000#16, t.memRead 0xFFFF#16)) =
      some (0x0103#16, 0xAB#8, 0xCD#8) := by decide
/-- V101, R181: LD SP,HL. -/
theorem test_v101_ld_sp_hl :
    after { (code 0x0100#16 [0xF9#8]) with h := 0xC0#8, l := 0xDE#8 } (fun t => (t.sp, t.pc)) =
      some (0xC0DE#16, 0x0101#16) := by decide
/-- V103, R182: LD HL,SP-1 from 0. -/
theorem test_v103_ld_hl_sp_minus_1_from_0 :
    after { (code 0x0100#16 [0xF8#8, 0xFF#8]) with sp := 0x0000#16 } (fun t => (t.h, t.l, t.pc)) =
      some (0xFF#8, 0xFF#8, 0x0102#16) := by decide
/-- V104, R182: LD HL,SP+1 carry. -/
theorem test_v104_ld_hl_sp_1_carry :
    after { (code 0x0100#16 [0xF8#8, 0x01#8]) with sp := 0x00FF#16 } (fun t => (t.f, t.h, t.pc)) =
      some (0x30#8, 0x01#8, 0x0102#16) := by decide
/-- V106, R185: PUSH BC. -/
theorem test_v106_push_bc :
    after { (code 0x0100#16 [0xC5#8]) with b := 0x12#8, c := 0x34#8, sp := 0xFFFE#16 } (fun t => (t.sp, t.pc, t.memRead 0xFFFC#16, t.memRead 0xFFFD#16)) =
      some (0xFFFC#16, 0x0101#16, 0x34#8, 0x12#8) := by decide
/-- V109, R185: PUSH HL at SP=0xFF02. -/
theorem test_v109_push_hl_at_sp_0xff02 :
    after { (code 0x0100#16 [0xE5#8]) with h := 0x41#8, l := 0x42#8, sp := 0xFF02#16 } (fun t => (t.sp, t.pc, t.memRead 0xFF00#16, t.sink)) =
      some (0xFF00#16, 0x0101#16, 0x42#8, [0x41#8]) := by decide
/-- V111, R186: POP AF. -/
theorem test_v111_pop_af :
    after { ((code 0x0100#16 [0xF1#8]).load 0xC000#16 [0xFF#8, 0x12#8]) with sp := 0xC000#16 } (fun t => (t.a, t.f, t.sp, t.pc)) =
      some (0x12#8, 0xF0#8, 0xC002#16, 0x0101#16) := by decide
/-- V112, R186: POP HL at SP=0xFFFF. -/
theorem test_v112_pop_hl_at_sp_0xffff :
    after { (((code 0x0100#16 [0xE1#8]).load 0xFFFF#16 [0x78#8]).load 0x0000#16 [0x56#8]) with sp := 0xFFFF#16 } (fun t => (t.h, t.l, t.sp, t.pc)) =
      some (0x56#8, 0x78#8, 0x0001#16, 0x0101#16) := by decide
/-- V115, R201: JR -128. -/
theorem test_v115_jr_minus_128 :
    after (code 0x0100#16 [0x18#8, 0x80#8]) (fun t => t.pc) =
      some 0x0082#16 := by decide
/-- V117, R201: JR +0x10 wraps. -/
theorem test_v117_jr_0x10_wraps :
    after (code 0xFFF8#16 [0x18#8, 0x10#8]) (fun t => t.pc) =
      some 0x000A#16 := by decide
/-- V118, R202: JR NZ taken. -/
theorem test_v118_jr_nz_taken :
    after { (code 0x0106#16 [0x20#8, 0xFC#8]) with f := 0x00#8 } (fun t => t.pc) =
      some 0x0104#16 := by decide
/-- V119, R202: JR NZ not taken. -/
theorem test_v119_jr_nz_not_taken :
    after { (code 0x0106#16 [0x20#8, 0xFC#8]) with f := 0x80#8 } (fun t => t.pc) =
      some 0x0108#16 := by decide
/-- V122, R203: JP a16. -/
theorem test_v122_jp_a16 :
    after (code 0x0100#16 [0xC3#8, 0x50#8, 0x01#8]) (fun t => t.pc) =
      some 0x0150#16 := by decide
/-- V123, R204: JP C taken. -/
theorem test_v123_jp_c_taken :
    after { (code 0x0100#16 [0xDA#8, 0x00#8, 0x02#8]) with f := 0x10#8 } (fun t => t.pc) =
      some 0x0200#16 := by decide
/-- V124, R204: JP NC not taken. -/
theorem test_v124_jp_nc_not_taken :
    after { (code 0x0100#16 [0xD2#8, 0x00#8, 0x02#8]) with f := 0x10#8 } (fun t => t.pc) =
      some 0x0103#16 := by decide
/-- V126, R205: JP HL. -/
theorem test_v126_jp_hl :
    after { (code 0x0100#16 [0xE9#8]) with h := 0x40#8, l := 0x00#8 } (fun t => t.pc) =
      some 0x4000#16 := by decide
/-- V127, R206: CALL a16. -/
theorem test_v127_call_a16 :
    after { (code 0x010C#16 [0xCD#8, 0x11#8, 0x01#8]) with sp := 0xFFFE#16 } (fun t => (t.sp, t.pc, t.memRead 0xFFFC#16, t.memRead 0xFFFD#16)) =
      some (0xFFFC#16, 0x0111#16, 0x0F#8, 0x01#8) := by decide
/-- V129, R207: CALL Z taken. -/
theorem test_v129_call_z_taken :
    after { (code 0x0150#16 [0xCC#8, 0x00#8, 0x20#8]) with f := 0x80#8, sp := 0xD000#16 } (fun t => (t.sp, t.pc, t.memRead 0xCFFE#16, t.memRead 0xCFFF#16)) =
      some (0xCFFE#16, 0x2000#16, 0x53#8, 0x01#8) := by decide
/-- V130, R207: CALL Z not taken. -/
theorem test_v130_call_z_not_taken :
    after { (code 0x0150#16 [0xCC#8, 0x00#8, 0x20#8]) with f := 0x00#8, sp := 0xD000#16 } (fun t => t.pc) =
      some 0x0153#16 := by decide
/-- V134, R208: RET. -/
theorem test_v134_ret :
    after { ((code 0x0100#16 [0xC9#8]).load 0xFFFC#16 [0x0F#8, 0x01#8]) with sp := 0xFFFC#16 } (fun t => (t.sp, t.pc)) =
      some (0xFFFE#16, 0x010F#16) := by decide
/-- V135, R209: RET NC taken. -/
theorem test_v135_ret_nc_taken :
    after { ((code 0x0100#16 [0xD0#8]).load 0xFFFC#16 [0x0F#8, 0x01#8]) with f := 0x00#8, sp := 0xFFFC#16 } (fun t => (t.sp, t.pc)) =
      some (0xFFFE#16, 0x010F#16) := by decide
/-- V136, R209: RET Z not taken. -/
theorem test_v136_ret_z_not_taken :
    after { ((code 0x0100#16 [0xC8#8]).load 0xFFFC#16 [0x0F#8, 0x01#8]) with f := 0x00#8, sp := 0xFFFC#16 } (fun t => t.pc) =
      some 0x0101#16 := by decide
/-- V137, R210: RETI nop. -/
theorem test_v137_reti_nop :
    after { ((code 0x0050#16 [0xD9#8]).load 0xFFFC#16 [0x0F#8, 0x01#8]) with sp := 0xFFFC#16 } (fun t => t.pc) =
      some 0x0051#16 := by decide
/-- V138, R210: RETI ret. -/
theorem test_v138_reti_ret :
    after { ((code 0x0050#16 [0xD9#8]).load 0xFFFC#16 [0x0F#8, 0x01#8]) with sp := 0xFFFC#16, cfg := { Config.default with reti := .ret } } (fun t => (t.sp, t.pc)) =
      some (0xFFFE#16, 0x010F#16) := by decide
/-- V139, R211: RST 08H. -/
theorem test_v139_rst_08h :
    after { (code 0x0104#16 [0xCF#8]) with sp := 0xD000#16 } (fun t => (t.sp, t.pc, t.memRead 0xCFFE#16, t.memRead 0xCFFF#16)) =
      some (0xCFFE#16, 0x0008#16, 0x05#8, 0x01#8) := by decide
/-- V141, R211: RST 00H at SP=0xFF03. -/
theorem test_v141_rst_00h_at_sp_0xff03 :
    after { (code 0x0100#16 [0xC7#8]) with sp := 0xFF03#16 } (fun t => (t.sp, t.pc, t.memRead 0xFF02#16, t.sink)) =
      some (0xFF01#16, 0x0000#16, 0x01#8, [0x01#8]) := by decide
/-- V142, R220: RLCA. -/
theorem test_v142_rlca :
    after { (code 0x0100#16 [0x07#8]) with a := 0x85#8, f := 0x00#8 } (fun t => (t.a, t.f, t.pc)) =
      some (0x0B#8, 0x10#8, 0x0101#16) := by decide
/-- V144, R220: RLCA zero, lr35902. -/
theorem test_v144_rlca_zero_lr35902 :
    after { (code 0x0100#16 [0x07#8]) with a := 0x00#8, f := 0x80#8, cfg := { Config.default with rotaFlags := .lr35902 } } (fun t => (t.f, t.pc)) =
      some (0x00#8, 0x0101#16) := by decide
/-- V146, R221: RRCA 0x01, N H kept. -/
theorem test_v146_rrca_0x01_n_h_kept :
    after { (code 0x0100#16 [0x0F#8]) with a := 0x01#8, f := 0x60#8 } (fun t => (t.a, t.f, t.pc)) =
      some (0x80#8, 0x70#8, 0x0101#16) := by decide
/-- V147, R221: RRCA 0x01, lr35902. -/
theorem test_v147_rrca_0x01_lr35902 :
    after { (code 0x0100#16 [0x0F#8]) with a := 0x01#8, f := 0x60#8, cfg := { Config.default with rotaFlags := .lr35902 } } (fun t => (t.a, t.f, t.pc)) =
      some (0x80#8, 0x10#8, 0x0101#16) := by decide
/-- V149, R222: RLA to zero, Z kept clear. -/
theorem test_v149_rla_to_zero_z_kept_clear :
    after { (code 0x0100#16 [0x17#8]) with a := 0x80#8, f := 0x00#8 } (fun t => (t.a, t.f, t.pc)) =
      some (0x00#8, 0x10#8, 0x0101#16) := by decide
/-- V151, R223: RRA carry in. -/
theorem test_v151_rra_carry_in :
    after { (code 0x0100#16 [0x1F#8]) with a := 0x00#8, f := 0x10#8 } (fun t => (t.a, t.f, t.pc)) =
      some (0x80#8, 0x00#8, 0x0101#16) := by decide

/-! ### States and operands that meet the hypotheses of each statement, in the order of the statements

A statement without hypotheses has no theorem here. -/

/-- `EncodeOfDecodeIsTheBytes`. -/
theorem witness_decode : decode [0xC3#8, 0x50#8, 0x01#8, 0x76#8] = .instr (.jpA16 0x0150#16) [0x76#8] := by rfl

/-- `EveryOpcodeByteSelectsOneInstruction`, third clause: one instruction from two triples of bytes. -/
theorem witness_same_instruction : decodeOp 0x00#8 0x01#8 0x02#8 = decodeOp 0x00#8 0x03#8 0x04#8 := by rfl

/-- `StepRunsTheDecodedInstruction`. -/
theorem witness_decoded_at_pc :
    (code 0xFFFF#16 [0xC3#8, 0x50#8, 0x01#8]).faultMark = none ∧
      decode (code 0xFFFF#16 [0xC3#8, 0x50#8, 0x01#8]).fetchBytes = .instr (.jpA16 0x0150#16) [] := ⟨by decide, by rfl⟩

/-- `StepRunsTheInstructionStoredAtPc`: three bytes across the top of memory. -/
theorem witness_stored_at_pc :
    (code 0xFFFF#16 [0xC3#8, 0x50#8, 0x01#8]).faultMark = none ∧
      ∀ (k : Nat) (b : Byte), (Instr.jpA16 0x0150#16).encode[k]? = some b →
        (code 0xFFFF#16 [0xC3#8, 0x50#8, 0x01#8]).memRead
          ((code 0xFFFF#16 [0xC3#8, 0x50#8, 0x01#8]).pc + BitVec.ofNat 16 k) = b := by
  refine ⟨by decide, fun k b h => ?_⟩
  match k, h with
  | 0, h => cases h; rfl
  | 1, h => cases h; rfl
  | 2, h => cases h; rfl
  | _ + 3, h => cases h

/-- A state the fault mark has stopped: `FaultedStateHasNoStep`. -/
theorem witness_faulted :
    ({ State.reset with faultMark := some (.undefinedOpcode 0xD3#8) } : State).faultMark = some (.undefinedOpcode 0xD3#8) := by
  decide

/-- `EveryInstructionCompletes`, second clause. -/
theorem witness_unmarked : State.reset.faultMark = none := by decide

/-- `FaultsExactlyWhenTheParametersSay`, first clause, at the first and the last of the opcodes and at DAA. -/
theorem witness_fault_due :
    (∀ op ∈ [0xCB#8, 0xFD#8], faultReason { Config.default with undefOp := .fault } op = some (.undefinedOpcode op)) ∧
    (∀ op ∈ [0x10#8, 0xFB#8], faultReason { Config.default with nongoalOp := .fault } op = some (.unimplementedOpcode op)) ∧
    faultReason { Config.default with daa := .fault } 0x27#8 = some (.unimplementedOpcode 0x27#8) := by decide

/-- Second clause: the same opcodes under the other parameters. -/
theorem witness_no_fault_due :
    State.reset.faultMark = none ∧ faultReason State.reset.cfg (State.reset.memRead State.reset.pc) = none ∧
    faultReason { Config.default with nongoalOp := .fault, daa := .fault } 0xCB#8 = none ∧
    faultReason { Config.default with undefOp := .fault, daa := .fault } 0xFB#8 = none ∧
    faultReason { Config.default with undefOp := .fault, nongoalOp := .fault, daa := .lr35902 } 0x27#8 = none := by decide

theorem witness_no_fault_step : ∃ t : State, step State.reset = .next t := ⟨_, rfl⟩

/-- `NothingFaultsUnderNopPolicies`. -/
theorem witness_never_faults : State.reset.faultMark = none ∧ neverFaults State.reset.cfg := by decide

/-- A state of a run with a byte in memory, one in the sink, and a store about to happen. -/
def storing : State :=
  { (code 0xC000#16 [0xE0#8, 0x01#8]) with a := 0x48#8, f := 0xB0#8, sink := [0x41#8] }

/-- `ConstructionValues`, the loader: bytes across the top of memory and on 0xFF01, an address just outside on each side, and a list one byte
longer than memory. -/
theorem witness_load :
    ([0xC3#8, 0x50#8, 0x01#8][0]? = some 0xC3#8 ∧ [0xC3#8, 0x50#8, 0x01#8][2]? = some 0x01#8 ∧
      [0xC3#8, 0x50#8, 0x01#8].length ≤ 65536 + 0) ∧
    (∀ k : Nat, k < [0xC3#8, 0x50#8, 0x01#8].length →
      0xFFFE#16 ≠ 0xFFFF#16 + BitVec.ofNat 16 k ∧ 0x0002#16 ≠ 0xFFFF#16 + BitVec.ofNat 16 k ∧
        0xFF01#16 ≠ 0xFFFF#16 + BitVec.ofNat 16 k) ∧
    (List.replicate 65537 0xC3#8)[1]? = some 0xC3#8 ∧ (List.replicate 65537 0xC3#8).length ≤ 65536 + 1 :=
  ⟨by decide, by decide, by rw [List.getElem?_replicate]; rfl, by rw [List.length_replicate]⟩

/-- Loaded bytes wrap past 0xFFFF, and 0xFF01 takes one like any address. R69. -/
theorem test_load_wraps_and_reaches_sink_address :
    (State.reset.load 0xFFFF#16 [0xC3#8, 0x50#8]).memRead 0x0000#16 = 0x50#8 ∧
    (State.reset.load 0xFF00#16 [0x41#8, 0x42#8]).memRead 0xFF01#16 = 0x42#8 := by decide

/-- `StepKeepsTheInvariant`, `ParametersNeverChange`, `SinkIsNeverRead`, and both clauses of `StepSendsAtMostOneByteToTheSink`. -/
theorem witness_step : storing.Inv ∧ ∃ t : State, step storing = .next t ∧ t.sink ≠ storing.sink :=
  ⟨by decide, _, rfl, by decide⟩

/-- `StepKeepsTheInvariant`, where the step raises a fault, and where the mark is set already (no next state then). -/
theorem witness_step_raises :
    ({ (code 0x0100#16 [0xD3#8]) with cfg := { Config.default with undefOp := .fault } } : State).Inv ∧
    ∃ t : State, step { (code 0x0100#16 [0xD3#8]) with cfg := { Config.default with undefOp := .fault } } = .next t ∧ t.Inv ∧
      t.faultMark ≠ none := ⟨by decide, _, rfl, by decide, by decide⟩

/-- `ByteAtSinkAddressNeverChanges`: two steps, the first to the sink. -/
theorem witness_run : ∃ t : State, Host.Core.run Sys2Proof.core 2 storing = .next t := ⟨_, rfl⟩

/-- `MemoryFrame`: addresses beside the two a push writes. -/
theorem witness_memory_frame :
    (∃ t : State, exec .pushBC (code 0x0100#16 []) = .next t) ∧
    0x0000#16 ∉ storeAddresses .pushBC (code 0x0100#16 []) ∧ 0xFFFD#16 ∉ storeAddresses .pushBC (code 0x0100#16 []) :=
  ⟨⟨_, rfl⟩, by decide, by decide⟩

/-- `FlagFrame`: a flag kept, and POP AF. -/
theorem witness_flag_frame :
    (∃ t : State, exec .incB storing = .next t) ∧ Flag.cy ∉ flagsWritten storing.cfg .incB ∧ Instr.incB ≠ .popAF ∧
    ∃ t : State, exec .popAF storing = .next t := ⟨⟨_, rfl⟩, by decide, by decide, ⟨_, rfl⟩⟩

/-- `RegisterFrame`: the other half of a written half, and SP. -/
theorem witness_register_frame :
    (∃ t : State, exec .incB storing = .next t) ∧ Reg8.c ∉ regsWritten storing.cfg .incB ∧ mayWriteSP .incB = false :=
  ⟨⟨_, rfl⟩, by decide, by decide⟩

/-- `PcAfterANonTransfer`. -/
theorem witness_non_transfer :
    ∃ t : State, storing.faultMark = none ∧ exec (.ldhAtA8A 0x01#8) storing = .next t ∧ t.faultMark = none ∧
      isTransfer (.ldhAtA8A 0x01#8) = false := ⟨_, by decide, rfl, by decide, by decide⟩

/-- `MemoryAccess`, first clause: the addresses on both sides of the diverted one. -/
theorem witness_stored_address : 0xFF00#16 ≠ 0xFF01#16 ∧ 0xFF02#16 ≠ 0xFF01#16 := by decide

/-- `CanonicalMemoryIsItsBytes`. -/
theorem witness_same_bytes :
    Memory.wf [(0xC000, 0x01#8)] ∧ Memory.wf (Memory.write [] 0xC000 0x01#8) ∧
    ∀ x : Word, Memory.read [(0xC000, 0x01#8)] x.toNat = Memory.read (Memory.write [] 0xC000 0x01#8) x.toNat :=
  ⟨by decide, by decide, fun _ => rfl⟩

/-- `FlagBitsAndPrimitives`, second clause. -/
theorem witness_low_bits : storing.f &&& 0x0F#8 = 0#8 := by decide

/-- `OpcodesWithNoInstruction`: both values of the parameter. -/
theorem witness_undefined_op :
    (0xCB#8, Instr.prefixCB) ∈ Instr.undefinedOps ∧ (0xFD#8, Instr.gapFD) ∈ Instr.undefinedOps ∧
    (State.construct Config.default).cfg.undefOp = .nop ∧
    (State.construct { Config.default with undefOp := .fault }).cfg.undefOp = .fault :=
  ⟨by simp [Instr.undefinedOps], by simp [Instr.undefinedOps], rfl, rfl⟩

/-- `NonGoalOpcodes`: both values of the parameter. -/
theorem witness_nongoal_op :
    (0x10#8, Instr.stop) ∈ Instr.nongoalOps ∧ (0xFB#8, Instr.ei) ∈ Instr.nongoalOps ∧
    (State.construct Config.default).cfg.nongoalOp = .nop ∧
    (State.construct { Config.default with nongoalOp := .fault }).cfg.nongoalOp = .fault :=
  ⟨by simp [Instr.nongoalOps], by simp [Instr.nongoalOps], rfl, rfl⟩

/-- `DaaResult`: its four clauses. -/
theorem witness_daa :
    (State.construct Config.default).cfg.daa = .nop ∧
    (State.construct { Config.default with daa := .fault }).cfg.daa = .fault ∧
    (State.construct { Config.default with daa := .lr35902 }).cfg.daa = .lr35902 ∧
    (State.construct { Config.default with daa := .lr35902 }).flag .n = false ∧
    ({ (State.construct { Config.default with daa := .lr35902 }) with f := 0x40#8 } : State).flag .n = true := by decide

/-- `PushThenPopRoundTrip`: the stack pointers beside the two excluded ones, and those where the stack wraps. -/
theorem witness_stack_pointer :
    (0xFF01#16 ≠ 0xFF02#16 ∧ 0xFF01#16 ≠ 0xFF03#16) ∧ (0xFF04#16 ≠ 0xFF02#16 ∧ 0xFF04#16 ≠ 0xFF03#16) ∧
    (0x0000#16 ≠ 0xFF02#16 ∧ 0x0000#16 ≠ 0xFF03#16) ∧ (0x0001#16 ≠ 0xFF02#16 ∧ 0x0001#16 ≠ 0xFF03#16) := by decide

/-- `ConditionalJumps`, `Calls`, `Returns`: each condition taken and not taken. -/
theorem witness_conditions :
    (∀ cc ∈ [Cond.z, Cond.c], ({ State.reset with f := 0x90#8 } : State).cond cc = true ∧ State.reset.cond cc = false) ∧
    (∀ cc ∈ [Cond.nz, Cond.nc], ({ State.reset with f := 0x90#8 } : State).cond cc = false ∧ State.reset.cond cc = true) := by
  decide

/-- `Returns`: both values of `RETI_POLICY`. -/
theorem witness_reti :
    State.reset.cfg.reti = .nop ∧ (State.construct { Config.default with reti := .ret }).cfg.reti = .ret := by decide

/-- `IncTwoHundredFiftySixTimes`, the clause on j: the first count, and one that more than one execution reaches. -/
theorem witness_inc_count :
    (∃ t : State, execTimes .incB 1 { State.reset with b := 0xFF#8 } = .next t ∧ t.flag .z = true) ∧
    ∃ t : State, execTimes .incB 3 { State.reset with b := 0xFD#8 } = .next t ∧ t.flag .z = true :=
  ⟨⟨_, rfl, by decide⟩, _, rfl, by decide⟩

/-- `EndMarkerIsAFixedPoint`. -/
theorem witness_end_marker :
    (code 0x0100#16 [0x18#8, 0xFE#8]).faultMark = none ∧ (code 0x0100#16 [0x18#8, 0xFE#8]).atMarker := by decide


end Sys2Proof.Tests
end

namespace Sys2Proof

/-- The first byte of the encoding. -/
def Instr.opcode (i : Instr) : Byte := i.encode.headD 0#8

/-- The opcode byte is the one decoded (R103). -/
theorem opcode_decodeOp (op b1 b2 : Byte) : (decodeOp op b1 b2).opcode = op := by
  have himm : (decodeOp op b1 b2).opcode = (decodeOp op 0#8 0#8).opcode := by
    unfold decodeOp
    generalize rowOf op = row, columnOf op = column
    cases row <;> cases column <;> rfl
  have hbyte : ∀ op : Byte, (decodeOp op 0#8 0#8).opcode = op := by decide
  rw [himm, hbyte]

end Sys2Proof

namespace Sys2Proof.Machine

/-! ### Every instruction as an action behind a fault check

The 256 rows of the opcode map reuse a few shared operations of the model. `actionOf` names the operation of each row, and
`exec_eq_effect` says once what every instruction does: it raises the fault its opcode byte is due (R101, R231), or PC moves past
it and its action runs. Statements about every instruction are then proved over the actions. -/

/-- The shared operation an instruction runs once PC is past it. -/
inductive Action
  | idle
  | incReg (r : Reg8) | decReg (r : Reg8) | incAtHL | decAtHL | incPair (p : Pair) | decPair (p : Pair)
  | alu (op : AluOp) (src : Src8) | cpl | scf | ccf | addHL (p : Pair) | addSP (e : Byte) | daa | rotate (op : RotOp)
  | loadReg (r : Reg8) (src : Src8) | storeHL (src : Src8) | storeA (m : AccMem) | loadA (m : AccMem)
  | writePair (p : Pair) (v : Word) | storeSP (a : Word) | ldSPHL | ldHLSP (e : Byte)
  | push (q : StackPair) | pop (q : StackPair)
  | jumpRelative (e : Byte) | jumpRelativeIf (cc : Cond) (e : Byte) | jump (a : Word) | jumpIf (cc : Cond) (a : Word)
  | jpHL | call (a : Word) | callIf (cc : Cond) (a : Word) | ret | retIf (cc : Cond) | reti

/-- The action on a state whose PC already is past the instruction. -/
def Action.run (x : Action) (s : State) : State :=
  match x with
  | .idle => s
  | .incReg r => s.incReg r
  | .decReg r => s.decReg r
  | .incAtHL => s.incAtHL
  | .decAtHL => s.decAtHL
  | .incPair p => s.incPair p
  | .decPair p => s.decPair p
  | .alu op src => s.alu op src
  | .cpl => s.cpl
  | .scf => s.scf
  | .ccf => s.ccf
  | .addHL p => s.addHL p
  | .addSP e => s.addSP e
  | .daa => if s.cfg.daa = .lr35902 then s.decimalAdjust else s
  | .rotate op => s.rotate op
  | .loadReg r src => s.loadReg r src
  | .storeHL src => s.storeHL src
  | .storeA m => s.storeA m
  | .loadA m => s.loadA m
  | .writePair p v => s.writePair p v
  | .storeSP a => s.storeSP a
  | .ldSPHL => s.ldSPHL
  | .ldHLSP e => s.ldHLSP e
  | .push q => s.push q
  | .pop q => s.pop q
  | .jumpRelative e => s.jumpRelative e
  | .jumpRelativeIf cc e => s.jumpRelativeIf cc e
  | .jump a => s.jump a
  | .jumpIf cc a => s.jumpIf cc a
  | .jpHL => s.jpHL
  | .call a => s.call a
  | .callIf cc a => s.callIf cc a
  | .ret => s.ret
  | .retIf cc => s.retIf cc
  | .reti => s.reti

/-- Which action each row of the opcode map runs. -/
def actionOf (i : Instr) : Action :=
  match i with
  | .nop | .stop | .halt | .prefixCB | .gapD3 | .gapDB | .gapDD | .gapE3 | .gapE4 | .gapEB | .gapEC | .gapED | .di
  | .gapF4 | .ei | .gapFC | .gapFD => .idle
  | .incB => .incReg .b | .incC => .incReg .c | .incD => .incReg .d | .incE => .incReg .e | .incH => .incReg .h
  | .incL => .incReg .l | .incA => .incReg .a
  | .decB => .decReg .b | .decC => .decReg .c | .decD => .decReg .d | .decE => .decReg .e | .decH => .decReg .h
  | .decL => .decReg .l | .decA => .decReg .a
  | .incAtHL => .incAtHL
  | .decAtHL => .decAtHL
  | .incBC => .incPair .bc | .incDE => .incPair .de | .incHL => .incPair .hl | .incSP => .incPair .sp
  | .decBC => .decPair .bc | .decDE => .decPair .de | .decHL => .decPair .hl | .decSP => .decPair .sp
  | .addAB => .alu .add (.reg .b) | .addAC => .alu .add (.reg .c) | .addAD => .alu .add (.reg .d)
  | .addAE => .alu .add (.reg .e) | .addAH => .alu .add (.reg .h) | .addAL => .alu .add (.reg .l)
  | .addAAtHL => .alu .add .atHL | .addAA => .alu .add (.reg .a) | .adcAB => .alu .adc (.reg .b)
  | .adcAC => .alu .adc (.reg .c) | .adcAD => .alu .adc (.reg .d) | .adcAE => .alu .adc (.reg .e)
  | .adcAH => .alu .adc (.reg .h) | .adcAL => .alu .adc (.reg .l) | .adcAAtHL => .alu .adc .atHL
  | .adcAA => .alu .adc (.reg .a) | .subB => .alu .sub (.reg .b) | .subC => .alu .sub (.reg .c)
  | .subD => .alu .sub (.reg .d) | .subE => .alu .sub (.reg .e) | .subH => .alu .sub (.reg .h)
  | .subL => .alu .sub (.reg .l) | .subAtHL => .alu .sub .atHL | .subA => .alu .sub (.reg .a)
  | .sbcAB => .alu .sbc (.reg .b) | .sbcAC => .alu .sbc (.reg .c) | .sbcAD => .alu .sbc (.reg .d)
  | .sbcAE => .alu .sbc (.reg .e) | .sbcAH => .alu .sbc (.reg .h) | .sbcAL => .alu .sbc (.reg .l)
  | .sbcAAtHL => .alu .sbc .atHL | .sbcAA => .alu .sbc (.reg .a) | .andB => .alu .and (.reg .b)
  | .andC => .alu .and (.reg .c) | .andD => .alu .and (.reg .d) | .andE => .alu .and (.reg .e)
  | .andH => .alu .and (.reg .h) | .andL => .alu .and (.reg .l) | .andAtHL => .alu .and .atHL
  | .andA => .alu .and (.reg .a) | .xorB => .alu .xor (.reg .b) | .xorC => .alu .xor (.reg .c)
  | .xorD => .alu .xor (.reg .d) | .xorE => .alu .xor (.reg .e) | .xorH => .alu .xor (.reg .h)
  | .xorL => .alu .xor (.reg .l) | .xorAtHL => .alu .xor .atHL | .xorA => .alu .xor (.reg .a)
  | .orB => .alu .or (.reg .b) | .orC => .alu .or (.reg .c) | .orD => .alu .or (.reg .d) | .orE => .alu .or (.reg .e)
  | .orH => .alu .or (.reg .h) | .orL => .alu .or (.reg .l) | .orAtHL => .alu .or .atHL | .orA => .alu .or (.reg .a)
  | .cpB => .alu .cp (.reg .b) | .cpC => .alu .cp (.reg .c) | .cpD => .alu .cp (.reg .d) | .cpE => .alu .cp (.reg .e)
  | .cpH => .alu .cp (.reg .h) | .cpL => .alu .cp (.reg .l) | .cpAtHL => .alu .cp .atHL | .cpA => .alu .cp (.reg .a)
  | .addAD8 v => .alu .add (.imm v) | .adcAD8 v => .alu .adc (.imm v) | .subD8 v => .alu .sub (.imm v)
  | .sbcAD8 v => .alu .sbc (.imm v) | .andD8 v => .alu .and (.imm v) | .xorD8 v => .alu .xor (.imm v)
  | .orD8 v => .alu .or (.imm v) | .cpD8 v => .alu .cp (.imm v)
  | .cpl => .cpl
  | .scf => .scf
  | .ccf => .ccf
  | .addHLBC => .addHL .bc | .addHLDE => .addHL .de | .addHLHL => .addHL .hl | .addHLSP => .addHL .sp
  | .addSPE8 e => .addSP e
  | .daa => .daa
  | .rlca => .rotate .rlca | .rrca => .rotate .rrca | .rla => .rotate .rla | .rra => .rotate .rra
  | .ldBD8 v => .loadReg .b (.imm v) | .ldCD8 v => .loadReg .c (.imm v) | .ldDD8 v => .loadReg .d (.imm v)
  | .ldED8 v => .loadReg .e (.imm v) | .ldHD8 v => .loadReg .h (.imm v) | .ldLD8 v => .loadReg .l (.imm v)
  | .ldAD8 v => .loadReg .a (.imm v) | .ldBB => .loadReg .b (.reg .b) | .ldBC => .loadReg .b (.reg .c)
  | .ldBD => .loadReg .b (.reg .d) | .ldBE => .loadReg .b (.reg .e) | .ldBH => .loadReg .b (.reg .h)
  | .ldBL => .loadReg .b (.reg .l) | .ldBAtHL => .loadReg .b .atHL | .ldBA => .loadReg .b (.reg .a)
  | .ldCB => .loadReg .c (.reg .b) | .ldCC => .loadReg .c (.reg .c) | .ldCD => .loadReg .c (.reg .d)
  | .ldCE => .loadReg .c (.reg .e) | .ldCH => .loadReg .c (.reg .h) | .ldCL => .loadReg .c (.reg .l)
  | .ldCAtHL => .loadReg .c .atHL | .ldCA => .loadReg .c (.reg .a) | .ldDB => .loadReg .d (.reg .b)
  | .ldDC => .loadReg .d (.reg .c) | .ldDD => .loadReg .d (.reg .d) | .ldDE => .loadReg .d (.reg .e)
  | .ldDH => .loadReg .d (.reg .h) | .ldDL => .loadReg .d (.reg .l) | .ldDAtHL => .loadReg .d .atHL
  | .ldDA => .loadReg .d (.reg .a) | .ldEB => .loadReg .e (.reg .b) | .ldEC => .loadReg .e (.reg .c)
  | .ldED => .loadReg .e (.reg .d) | .ldEE => .loadReg .e (.reg .e) | .ldEH => .loadReg .e (.reg .h)
  | .ldEL => .loadReg .e (.reg .l) | .ldEAtHL => .loadReg .e .atHL | .ldEA => .loadReg .e (.reg .a)
  | .ldHB => .loadReg .h (.reg .b) | .ldHC => .loadReg .h (.reg .c) | .ldHD => .loadReg .h (.reg .d)
  | .ldHE => .loadReg .h (.reg .e) | .ldHH => .loadReg .h (.reg .h) | .ldHL => .loadReg .h (.reg .l)
  | .ldHAtHL => .loadReg .h .atHL | .ldHA => .loadReg .h (.reg .a) | .ldLB => .loadReg .l (.reg .b)
  | .ldLC => .loadReg .l (.reg .c) | .ldLD => .loadReg .l (.reg .d) | .ldLE => .loadReg .l (.reg .e)
  | .ldLH => .loadReg .l (.reg .h) | .ldLL => .loadReg .l (.reg .l) | .ldLAtHL => .loadReg .l .atHL
  | .ldLA => .loadReg .l (.reg .a) | .ldAB => .loadReg .a (.reg .b) | .ldAC => .loadReg .a (.reg .c)
  | .ldAD => .loadReg .a (.reg .d) | .ldAE => .loadReg .a (.reg .e) | .ldAH => .loadReg .a (.reg .h)
  | .ldAL => .loadReg .a (.reg .l) | .ldAAtHL => .loadReg .a .atHL | .ldAA => .loadReg .a (.reg .a)
  | .ldAtHLD8 v => .storeHL (.imm v) | .ldAtHLB => .storeHL (.reg .b) | .ldAtHLC => .storeHL (.reg .c)
  | .ldAtHLD => .storeHL (.reg .d) | .ldAtHLE => .storeHL (.reg .e) | .ldAtHLH => .storeHL (.reg .h)
  | .ldAtHLL => .storeHL (.reg .l) | .ldAtHLA => .storeHL (.reg .a)
  | .ldAtBCA => .storeA .atBC | .ldAtDEA => .storeA .atDE | .ldAtHLIncA => .storeA .atHLInc
  | .ldAtHLDecA => .storeA .atHLDec | .ldhAtA8A n => .storeA (.atHigh n) | .ldAtCA => .storeA .atHighC
  | .ldAtA16A a => .storeA (.atAbs a)
  | .ldAAtBC => .loadA .atBC | .ldAAtDE => .loadA .atDE | .ldAAtHLInc => .loadA .atHLInc
  | .ldAAtHLDec => .loadA .atHLDec | .ldhAAtA8 n => .loadA (.atHigh n) | .ldAAtC => .loadA .atHighC
  | .ldAAtA16 a => .loadA (.atAbs a)
  | .ldBCD16 v => .writePair .bc v | .ldDED16 v => .writePair .de v | .ldHLD16 v => .writePair .hl v
  | .ldSPD16 v => .writePair .sp v
  | .ldAtA16SP a => .storeSP a
  | .ldSPHL => .ldSPHL
  | .ldHLSPE8 e => .ldHLSP e
  | .pushBC => .push .bc | .pushDE => .push .de | .pushHL => .push .hl | .pushAF => .push .af
  | .popBC => .pop .bc | .popDE => .pop .de | .popHL => .pop .hl | .popAF => .pop .af
  | .jrE8 e => .jumpRelative e
  | .jrNZE8 e => .jumpRelativeIf .nz e | .jrZE8 e => .jumpRelativeIf .z e | .jrNCE8 e => .jumpRelativeIf .nc e
  | .jrCE8 e => .jumpRelativeIf .c e
  | .jpA16 a => .jump a
  | .jpNZA16 a => .jumpIf .nz a | .jpZA16 a => .jumpIf .z a | .jpNCA16 a => .jumpIf .nc a | .jpCA16 a => .jumpIf .c a
  | .jpHL => .jpHL
  | .rst00 => .call (rstAddress .v00) | .callA16 a => .call a | .rst08 => .call (rstAddress .v08)
  | .rst10 => .call (rstAddress .v10) | .rst18 => .call (rstAddress .v18) | .rst20 => .call (rstAddress .v20)
  | .rst28 => .call (rstAddress .v28) | .rst30 => .call (rstAddress .v30) | .rst38 => .call (rstAddress .v38)
  | .callNZA16 a => .callIf .nz a | .callZA16 a => .callIf .z a | .callNCA16 a => .callIf .nc a
  | .callCA16 a => .callIf .c a
  | .ret => .ret
  | .retNZ => .retIf .nz | .retZ => .retIf .z | .retNC => .retIf .nc | .retC => .retIf .c
  | .reti => .reti

/-- The state after an opcode that may fault: marked with the fault the parameters demand for it, else `t` (R101). -/
def State.faultOr (s : State) (op : Byte) (t : State) : State :=
  match faultReason s.cfg op with
  | some r => s.raise r
  | none => t

theorem undefinedOp_eq_faultOr (s : State) {op : Byte}
    (h : op ∈ ([0xCB, 0xD3, 0xDB, 0xDD, 0xE3, 0xE4, 0xEB, 0xEC, 0xED, 0xF4, 0xFC, 0xFD] : List Byte)) :
    s.undefinedOp op = s.faultOr op (s.advance 1) := by
  have hother : op ∉ ([0x10, 0x76, 0xF3, 0xFB] : List Byte) ∧ op ≠ 0x27#8 := by revert op; decide
  unfold State.undefinedOp State.faultOr faultReason
  cases s.cfg.undefOp with
  | nop => simp only [hother, reduceCtorEq, and_false, false_and, if_false]
  | fault => simp only [h, true_and, if_true]

theorem nongoalOp_eq_faultOr (s : State) {op : Byte} (h : op ∈ ([0x10, 0x76, 0xF3, 0xFB] : List Byte)) :
    s.nongoalOp op = s.faultOr op (s.advance 1) := by
  have hother : op ∉ ([0xCB, 0xD3, 0xDB, 0xDD, 0xE3, 0xE4, 0xEB, 0xEC, 0xED, 0xF4, 0xFC, 0xFD] : List Byte) ∧
    op ≠ 0x27#8 := by revert op; decide
  unfold State.nongoalOp State.faultOr faultReason
  cases s.cfg.nongoalOp with
  | nop => simp only [hother, reduceCtorEq, and_false, false_and, if_false]
  | fault => simp only [h, hother, false_and, true_and, if_true, if_false]

theorem daa_eq_faultOr (s : State) : s.daa = s.faultOr 0x27#8 (Action.daa.run (s.advance 1)) := by
  have hother : 0x27#8 ∉ ([0xCB, 0xD3, 0xDB, 0xDD, 0xE3, 0xE4, 0xEB, 0xEC, 0xED, 0xF4, 0xFC, 0xFD] : List Byte) ∧
    0x27#8 ∉ ([0x10, 0x76, 0xF3, 0xFB] : List Byte) := by decide
  unfold State.daa State.faultOr faultReason Action.run
  cases h : s.cfg.daa <;>
    simp only [hother, h, State.advance_cfg, reduceCtorEq, false_and, and_false, and_self, if_true, if_false]

/-- What an instruction does at the state whose PC addresses it: the fault its opcode is due, or its action. -/
def effectOf (i : Instr) (s : State) : State := s.faultOr i.opcode ((actionOf i).run (s.advance i.length))

theorem exec_eq_effectOf (i : Instr) (s : State) : exec i s = .next (effectOf i s) := by
  cases i with
  | prefixCB | gapD3 | gapDB | gapDD | gapE3 | gapE4 | gapEB | gapEC | gapED | gapF4 | gapFC | gapFD =>
    exact congrArg Host.Outcome.next (undefinedOp_eq_faultOr s (by decide))
  | stop | halt | di | ei => exact congrArg Host.Outcome.next (nongoalOp_eq_faultOr s (by decide))
  | daa => exact congrArg Host.Outcome.next (daa_eq_faultOr s)
  | _ => rfl

/-- The two ways an instruction can end: marked with the fault its opcode is due, or with its action done past it. -/
theorem exec_cases {i : Instr} {s t : State} (h : exec i s = .next t) :
    (∃ r, faultReason s.cfg i.opcode = some r ∧ t = s.raise r) ∨
      (faultReason s.cfg i.opcode = none ∧ t = (actionOf i).run (s.advance i.length)) := by
  obtain rfl : effectOf i s = t := Host.Outcome.next.inj ((exec_eq_effectOf i s).symm.trans h)
  unfold effectOf State.faultOr
  cases faultReason s.cfg i.opcode with
  | none => exact .inr ⟨rfl, rfl⟩
  | some r => exact .inl ⟨r, rfl, rfl⟩

theorem step_of_unmarked {s : State} (h : s.faultMark = none) : step s = exec s.fetchInstr s := by
  simp only [step, h]

/-- Only an unmarked state steps, and it runs the instruction at PC (R100, R113). -/
theorem step_cases {s t : State} (h : step s = .next t) : s.faultMark = none ∧ exec s.fetchInstr s = .next t := by
  cases hm : s.faultMark with
  | none => exact ⟨rfl, (step_of_unmarked hm).symm.trans h⟩
  | some r => simp [step, hm] at h

theorem opcode_fetchInstr (s : State) : s.fetchInstr.opcode = s.memRead s.pc := opcode_decodeOp ..

/-! ### Every action as a list of primitive updates

An action writes registers, flags, F, SP, PC and bytes of memory, each with a value computed from the state before it.
`Action.updates` lists these writes, so that what any action keeps is a fact about the six primitive updates. -/

/-- A primitive write with its value. -/
inductive Update
  | reg (r : Reg8) (v : Byte) | flag (fl : Flag) (v : Bool) | f (v : Byte) | sp (v : Word) | pc (v : Word)
  | store (a : Word) (v : Byte)

/-- The state after one primitive write. -/
def State.update (s : State) (u : Update) : State :=
  match u with
  | .reg r v => s.writeReg r v
  | .flag fl v => s.setFlag fl v
  | .f v => s.writeF v
  | .sp v => { s with sp := v }
  | .pc v => s.jump v
  | .store a v => s.memWrite a v

/-- The state after a list of primitive writes, first to last. -/
def State.updateAll (s : State) (us : List Update) : State := us.foldl State.update s

/-- All four flags. -/
def flagUpdates (z n h cy : Bool) : List Update := [.flag .z z, .flag .n n, .flag .h h, .flag .cy cy]

/-- The flags of an 8-bit increment or decrement: Z, and under `lr35902` N and H. -/
def incDecFlagUpdates (cfg : Config) (z n h : Bool) : List Update :=
  if cfg.incDec8Flags = .lr35902 then [.flag .z z, .flag .n n, .flag .h h] else [.flag .z z]

/-- The flags of an increment of `old`. -/
def incFlagUpdates (cfg : Config) (old : Byte) : List Update :=
  incDecFlagUpdates cfg (isZero (old + 1#8)) false (decide (old.toNat % 16 = 0xF))

/-- The flags of a decrement of `old`. -/
def decFlagUpdates (cfg : Config) (old : Byte) : List Update :=
  incDecFlagUpdates cfg (isZero (old - 1#8)) true (decide (old.toNat % 16 = 0x0))

/-- The flags of ADD SP,e8 and LD HL,SP+e8. -/
def offsetFlagUpdates (sp : Word) (e : Byte) : List Update :=
  flagUpdates false false (halfCarry (loByte sp) e false) (carry (loByte sp) e false)

/-- Z, N and H of a rotate. -/
def rotaFlagUpdates (cfg : Config) : List Update :=
  if cfg.rotaFlags = .lr35902 then [.flag .z false, .flag .n false, .flag .h false] else []

/-- The halves of BC, DE or HL, or SP. -/
def pairUpdates (p : Pair) (v : Word) : List Update :=
  match p with
  | .bc => [.reg .b (hiByte v), .reg .c (loByte v)]
  | .de => [.reg .d (hiByte v), .reg .e (loByte v)]
  | .hl => [.reg .h (hiByte v), .reg .l (loByte v)]
  | .sp => [.sp v]

/-- The halves of BC, DE or HL, or A and F. -/
def stackPairUpdates (q : StackPair) (v : Word) : List Update :=
  match q with
  | .bc => [.reg .b (hiByte v), .reg .c (loByte v)]
  | .de => [.reg .d (hiByte v), .reg .e (loByte v)]
  | .hl => [.reg .h (hiByte v), .reg .l (loByte v)]
  | .af => [.reg .a (hiByte v), .f (loByte v)]

/-- The two bytes of a push and SP. -/
def pushUpdates (sp v : Word) : List Update :=
  [.store (sp - 1#16) (hiByte v), .store (sp - 2#16) (loByte v), .sp (sp - 2#16)]

/-- HL after an accumulator move. -/
def accUpdates (hl : Word) (m : AccMem) : List Update :=
  match m with
  | .atHLInc => pairUpdates .hl (hl + 1#16)
  | .atHLDec => pairUpdates .hl (hl - 1#16)
  | _ => []

/-- The flags of a - (v + cin). -/
def subFlagUpdates (a v : Byte) (cin : Bool) : List Update :=
  flagUpdates (isZero (subResult a v cin)) true (halfBorrow a v cin) (borrow a v cin)

/-- A and the flags of an addition. -/
def addUpdates (a v : Byte) (cin : Bool) : List Update :=
  .reg .a (BitVec.ofNat 8 (a.toNat + v.toNat + cin.toNat)) ::
    flagUpdates (isZero (BitVec.ofNat 8 (a.toNat + v.toNat + cin.toNat))) false (halfCarry a v cin) (carry a v cin)

/-- A and the flags of a bitwise operation. -/
def logicUpdates (res : Byte) (h : Bool) : List Update := .reg .a res :: flagUpdates (isZero res) false h false

/-- `alu8(op, v)` on A = `a` and CY = `cy`. -/
def aluUpdates (op : AluOp) (a v : Byte) (cy : Bool) : List Update :=
  match op with
  | .add => addUpdates a v false
  | .adc => addUpdates a v cy
  | .sub => subFlagUpdates a v false ++ [.reg .a (subResult a v false)]
  | .sbc => subFlagUpdates a v cy ++ [.reg .a (subResult a v cy)]
  | .and => logicUpdates (a &&& v) true
  | .xor => logicUpdates (a ^^^ v) false
  | .or => logicUpdates (a ||| v) false
  | .cp => subFlagUpdates a v false

/-- The `lr35902` branch of DAA. -/
def decimalAdjustUpdates (a : Byte) (n h cy : Bool) : List Update :=
  [.reg .a (daaResult a n h cy), .flag .z (isZero (daaResult a n h cy)), .flag .h false, .flag .cy (daaHigh a n cy)]

/-- The writes of an action, with their values from the state before it. -/
def Action.updates (x : Action) (s : State) : List Update :=
  match x with
  | .idle => []
  | .incReg r => .reg r (s.readReg r + 1#8) :: incFlagUpdates s.cfg (s.readReg r)
  | .decReg r => .reg r (s.readReg r - 1#8) :: decFlagUpdates s.cfg (s.readReg r)
  | .incAtHL => .store s.hl (s.memRead s.hl + 1#8) :: incFlagUpdates s.cfg (s.memRead s.hl)
  | .decAtHL => .store s.hl (s.memRead s.hl - 1#8) :: decFlagUpdates s.cfg (s.memRead s.hl)
  | .incPair p => pairUpdates p (s.readPair p + 1#16)
  | .decPair p => pairUpdates p (s.readPair p - 1#16)
  | .alu op src => aluUpdates op s.a (s.readSrc src) (s.flag .cy)
  | .cpl => [.reg .a (~~~s.a), .flag .n true, .flag .h true]
  | .scf => [.flag .cy true, .flag .n false, .flag .h false]
  | .ccf => [.flag .cy (!s.flag .cy), .flag .n false, .flag .h false]
  | .addHL p => pairUpdates .hl (s.hl + s.readPair p) ++
      [.flag .n false, .flag .h (halfCarry16 s.hl (s.readPair p)), .flag .cy (carry16 s.hl (s.readPair p))]
  | .addSP e => .sp (s.sp + sext16 e) :: offsetFlagUpdates s.sp e
  | .daa => if s.cfg.daa = .lr35902 then decimalAdjustUpdates s.a (s.flag .n) (s.flag .h) (s.flag .cy) else []
  | .rotate op => [.reg .a (rotateResult op s.a (s.flag .cy)), .flag .cy (rotateOut op s.a)] ++ rotaFlagUpdates s.cfg
  | .loadReg r src => [.reg r (s.readSrc src)]
  | .storeHL src => [.store s.hl (s.readSrc src)]
  | .storeA m => .store (s.accAddress m) s.a :: accUpdates s.hl m
  | .loadA m => .reg .a (s.memRead (s.accAddress m)) :: accUpdates s.hl m
  | .writePair p v => pairUpdates p v
  | .storeSP a => [.store a (loByte s.sp), .store (a + 1#16) (hiByte s.sp)]
  | .ldSPHL => [.sp s.hl]
  | .ldHLSP e => pairUpdates .hl (s.sp + sext16 e) ++ offsetFlagUpdates s.sp e
  | .push q => pushUpdates s.sp (s.readStackPair q)
  | .pop q => .sp (s.sp + 2#16) :: stackPairUpdates q s.popValue
  | .jumpRelative e => [.pc (s.pc + sext16 e)]
  | .jumpRelativeIf cc e => if s.cond cc then [.pc (s.pc + sext16 e)] else []
  | .jump a => [.pc a]
  | .jumpIf cc a => if s.cond cc then [.pc a] else []
  | .jpHL => [.pc s.hl]
  | .call a => pushUpdates s.sp s.pc ++ [.pc a]
  | .callIf cc a => if s.cond cc then pushUpdates s.sp s.pc ++ [.pc a] else []
  | .ret => [.sp (s.sp + 2#16), .pc s.popValue]
  | .retIf cc => if s.cond cc then [.sp (s.sp + 2#16), .pc s.popValue] else []
  | .reti => if s.cfg.reti = .ret then [.sp (s.sp + 2#16), .pc s.popValue] else []

theorem State.writePair_eq_updateAll (s : State) (p : Pair) (v : Word) : s.writePair p v = s.updateAll (pairUpdates p v) := by
  cases p <;> rfl

theorem State.writeStackPair_eq_updateAll (s : State) (q : StackPair) (v : Word) :
    s.writeStackPair q v = s.updateAll (stackPairUpdates q v) := by
  cases q <;> rfl

theorem State.incFlags_eq_updateAll (s : State) (old : Byte) :
    s.incFlags old = s.updateAll (incFlagUpdates s.cfg old) := by
  unfold State.incFlags incFlagUpdates incDecFlagUpdates
  cases s.cfg.incDec8Flags <;> rfl

theorem State.decFlags_eq_updateAll (s : State) (old : Byte) :
    s.decFlags old = s.updateAll (decFlagUpdates s.cfg old) := by
  unfold State.decFlags decFlagUpdates incDecFlagUpdates
  cases s.cfg.incDec8Flags <;> rfl

theorem State.rotaFlags_eq_updateAll (s : State) : s.rotaFlags = s.updateAll (rotaFlagUpdates s.cfg) := by
  unfold State.rotaFlags rotaFlagUpdates
  cases s.cfg.rotaFlags <;> rfl

theorem State.accUpdate_eq_updateAll (s : State) (m : AccMem) : s.accUpdate m = s.updateAll (accUpdates s.hl m) := by
  cases m <;> rfl

theorem State.alu8_eq_updateAll (s : State) (op : AluOp) (v : Byte) :
    s.alu8 op v = s.updateAll (aluUpdates op s.a v (s.flag .cy)) := by
  cases op <;> rfl

@[simp] theorem State.memWrite_hl (s : State) (x : Word) (v : Byte) : (s.memWrite x v).hl = s.hl := by
  simp [State.hl]

/-- An operation done only where `p` holds. -/
theorem State.ite_eq_updateAll {p : Prop} [Decidable p] {s t : State} {us : List Update} (h : t = s.updateAll us) :
    (if p then t else s) = s.updateAll (if p then us else []) := by
  split
  · exact h
  · rfl

/-- An action is its writes. -/
theorem Action.run_eq_updateAll (x : Action) (s : State) : x.run s = s.updateAll (x.updates s) := by
  cases x with
  | incReg r => exact (State.incFlags_eq_updateAll _ _).trans (by rw [State.writeReg_cfg]; rfl)
  | decReg r => exact (State.decFlags_eq_updateAll _ _).trans (by rw [State.writeReg_cfg]; rfl)
  | incAtHL => exact (State.incFlags_eq_updateAll _ _).trans (by rw [State.memWrite_cfg]; rfl)
  | decAtHL => exact (State.decFlags_eq_updateAll _ _).trans (by rw [State.memWrite_cfg]; rfl)
  | incPair p | decPair p | writePair p v => exact State.writePair_eq_updateAll ..
  | alu op src => exact State.alu8_eq_updateAll ..
  | rotate op => exact State.rotaFlags_eq_updateAll _
  | storeA m => exact (State.accUpdate_eq_updateAll _ _).trans (by rw [State.memWrite_hl]; rfl)
  | loadA m => exact State.accUpdate_eq_updateAll _ _
  | pop q => exact State.writeStackPair_eq_updateAll ..
  | daa => exact State.ite_eq_updateAll rfl
  | jumpRelativeIf cc e => exact State.ite_eq_updateAll rfl
  | jumpIf cc a => exact State.ite_eq_updateAll rfl
  | callIf cc a => exact State.ite_eq_updateAll rfl
  | retIf cc => exact State.ite_eq_updateAll rfl
  | reti => simp only [Action.run, State.reti, Action.updates]; cases s.cfg.reti <;> rfl
  | _ => rfl

/-! ### What an action may write -/

/-- A reading of the state that no update of the list changes is what it was before the list. -/
theorem State.updateAll_keeps {α : Type} (g : State → α) {us : List Update} (s : State)
    (h : ∀ u ∈ us, ∀ t : State, g (t.update u) = g t) : g (s.updateAll us) = g s :=
  List.foldlRecOn us State.update (motive := fun t => g t = g s) rfl (fun t ht u hu => (h u hu t).trans ht)

@[simp] theorem State.update_cfg (s : State) (u : Update) : (s.update u).cfg = s.cfg := by
  cases u <;> simp [State.update]

@[simp] theorem State.update_faultMark (s : State) (u : Update) : (s.update u).faultMark = s.faultMark := by
  cases u <;> simp [State.update]

theorem State.update_sp {u : Update} (h : ∀ v, u ≠ .sp v) (s : State) : (s.update u).sp = s.sp := by
  cases u with
  | sp v => exact absurd rfl (h v)
  | _ => simp [State.update]

theorem State.update_pc {u : Update} (h : ∀ v, u ≠ .pc v) (s : State) : (s.update u).pc = s.pc := by
  cases u with
  | pc v => exact absurd rfl (h v)
  | _ => simp [State.update]

theorem State.readReg_update {r : Reg8} {u : Update} (h : ∀ v, u ≠ .reg r v) (s : State) :
    (s.update u).readReg r = s.readReg r := by
  cases u with
  | reg x v =>
    have hx : r ≠ x := fun e => h v (by rw [e])
    simp [State.update, State.readReg_writeReg, hx]
  | _ => cases r <;> simp [State.update, State.readReg]

/-- Only a write of F as a whole changes its low bits (R29). -/
theorem State.low_update {u : Update} (h : ∀ v, u ≠ .f v) (s : State) :
    (s.update u).f &&& 0x0F#8 = s.f &&& 0x0F#8 := by
  cases u with
  | f v => exact absurd rfl (h v)
  | _ => simp [State.update]

theorem State.flag_update {fl : Flag} {u : Update} (hfl : ∀ v, u ≠ .flag fl v) (hf : ∀ v, u ≠ .f v) (s : State) :
    (s.update u).flag fl = s.flag fl := by
  cases u with
  | flag x v =>
    have hx : fl ≠ x := fun e => hfl v (by rw [e])
    simp [State.update, hx]
  | f v => exact absurd rfl (hf v)
  | _ => exact State.flag_congr (by simp [State.update]) fl

/-- Every update keeps bits 3 to 0 of F at zero (R27). -/
theorem State.low_update_eq_zero {s : State} (h : s.f &&& 0x0F#8 = 0#8) (u : Update) : (s.update u).f &&& 0x0F#8 = 0#8 := by
  cases u with
  | f v => exact State.low_writeF s v
  | _ => simpa [State.update] using h

/-- Every update keeps memory in canonical form. -/
theorem State.update_wf {s : State} (h : s.mem.wf) (u : Update) : (s.update u).mem.wf := by
  cases u with
  | store a v => exact State.memWrite_wf h a v
  | _ => simpa [State.update] using h

/-- The halves of a pair (SP has none). -/
def Pair.halves (p : Pair) : List Reg8 :=
  match p with
  | .bc => [.b, .c]
  | .de => [.d, .e]
  | .hl => [.h, .l]
  | .sp => []

/-- The 8-bit registers an action may write, F apart. -/
def Action.regs (cfg : Config) (x : Action) : List Reg8 :=
  match x with
  | .incReg r | .decReg r | .loadReg r _ => [r]
  | .incPair p | .decPair p | .writePair p _ => Pair.halves p
  | .alu .cp _ => []
  | .alu _ _ | .cpl | .rotate _ => [.a]
  | .daa => if cfg.daa = .lr35902 then [.a] else []
  | .addHL _ | .ldHLSP _ | .storeA .atHLInc | .storeA .atHLDec | .pop .hl => [.h, .l]
  | .loadA .atHLInc | .loadA .atHLDec => [.a, .h, .l]
  | .loadA _ | .pop .af => [.a]
  | .pop .bc => [.b, .c]
  | .pop .de => [.d, .e]
  | _ => []

/-- The flags an action may write. -/
def Action.flags (cfg : Config) (x : Action) : List Flag :=
  match x with
  | .incReg _ | .decReg _ | .incAtHL | .decAtHL => if cfg.incDec8Flags = .lr35902 then [.z, .n, .h] else [.z]
  | .rotate _ => if cfg.rotaFlags = .lr35902 then [.z, .n, .h, .cy] else [.cy]
  | .addHL _ | .scf | .ccf => [.n, .h, .cy]
  | .daa => if cfg.daa = .lr35902 then [.z, .h, .cy] else []
  | .cpl => [.n, .h]
  | .alu _ _ | .addSP _ | .ldHLSP _ | .pop .af => [.z, .n, .h, .cy]
  | _ => []

/-- Whether an action may write SP. -/
def Action.writesSP (x : Action) : Bool :=
  match x with
  | .incPair .sp | .decPair .sp | .writePair .sp _ | .ldSPHL | .addSP _ | .push _ | .pop _ | .call _ | .callIf _ _ | .ret
  | .retIf _ | .reti => true
  | _ => false

/-- Whether an action may write PC. -/
def Action.transfers (x : Action) : Bool :=
  match x with
  | .jumpRelative _ | .jumpRelativeIf _ _ | .jump _ | .jumpIf _ _ | .jpHL | .call _ | .callIf _ _ | .ret | .retIf _
  | .reti => true
  | _ => false

theorem regsWritten_eq_regs (cfg : Config) (i : Instr) : regsWritten cfg i = (actionOf i).regs cfg := by
  cases i <;> rfl

theorem flagsWritten_eq_flags (cfg : Config) (i : Instr) : flagsWritten cfg i = (actionOf i).flags cfg := by
  cases i <;> rfl

theorem mayWriteSP_eq_writesSP (i : Instr) : mayWriteSP i = (actionOf i).writesSP := by
  cases i <;> rfl

theorem isTransfer_eq_transfers (i : Instr) : isTransfer i = (actionOf i).transfers := by
  cases i <;> rfl

/-- Whether the tables let an action make this write; F as a whole is POP AF's alone. -/
def Action.mayMake (cfg : Config) (x : Action) (u : Update) : Prop :=
  match u with
  | .reg r _ => r ∈ x.regs cfg
  | .flag fl _ => fl ∈ x.flags cfg
  | .f _ => x = .pop .af
  | .sp _ => x.writesSP = true
  | .pc _ => x.transfers = true
  | .store _ _ => True

/-- Every write of an action is one the tables let it make. -/
theorem Action.mayMake_of_mem_updates (x : Action) (s : State) : ∀ u ∈ x.updates s, x.mayMake s.cfg u := by
  cases x
  case' alu op src => cases op
  case' incPair p | decPair p | writePair p v => cases p
  case' storeA m | loadA m => cases m
  case' pop q => cases q
  case' incReg | decReg | incAtHL | decAtHL => by_cases hp : s.cfg.incDec8Flags = .lr35902
  case' rotate => by_cases hp : s.cfg.rotaFlags = .lr35902
  case' daa => by_cases hp : s.cfg.daa = .lr35902
  case' jumpRelativeIf cc _ | jumpIf cc _ | callIf cc _ | retIf cc => by_cases hp : s.cond cc
  case' reti => by_cases hp : s.cfg.reti = .ret
  all_goals
    simp [*, Action.updates, Action.mayMake, Action.regs, Action.flags, Action.writesSP, Action.transfers, aluUpdates,
      addUpdates, logicUpdates, subFlagUpdates, flagUpdates, incFlagUpdates, decFlagUpdates, incDecFlagUpdates,
      rotaFlagUpdates, offsetFlagUpdates, decimalAdjustUpdates, pairUpdates, stackPairUpdates, Pair.halves,
      accUpdates, pushUpdates]

/-! ### The sink is written and never read -/

/-- The bytes an update sends to the sink (R56). -/
def Update.sent (u : Update) : List Byte :=
  match u with
  | .store a v => if a = sinkAddress then [v] else []
  | _ => []

theorem State.update_other_sink (s : State) (other : List Byte) (u : Update) :
    ({ s with sink := other } : State).update u = { s.update u with sink := other ++ u.sent } := by
  cases u with
  | reg r v => cases r <;> simp [State.update, State.writeReg, Update.sent]
  | store a v => by_cases ha : a = sinkAddress <;> simp [State.update, State.memWrite, Update.sent, ha]
  | _ => simp [State.update, State.setFlag, State.writeF, State.jump, Update.sent]

theorem State.updateAll_other_sink (s : State) (other : List Byte) (us : List Update) :
    ({ s with sink := other } : State).updateAll us = { s.updateAll us with sink := other ++ us.flatMap Update.sent } := by
  induction us generalizing s other with
  | nil => simp [State.updateAll]
  | cons u us ih =>
    calc ({ s with sink := other } : State).updateAll (u :: us)
        = (({ s with sink := other } : State).update u).updateAll us := rfl
      _ = { (s.update u).updateAll us with sink := (other ++ u.sent) ++ us.flatMap Update.sent } := by
          rw [State.update_other_sink, ih]
      _ = _ := by simp [State.updateAll]

theorem State.readSrc_other_sink (s : State) (other : List Byte) (src : Src8) :
    ({ s with sink := other } : State).readSrc src = s.readSrc src := by
  cases src with
  | reg r => cases r <;> rfl
  | _ => rfl

/-- No value an action writes comes from the sink. -/
theorem Action.updates_other_sink (x : Action) (s : State) (other : List Byte) :
    x.updates { s with sink := other } = x.updates s := by
  cases x
  case' incReg r | decReg r => cases r
  case' incPair p | decPair p | addHL p => cases p
  case' storeA m | loadA m => cases m
  case' push q => cases q
  case' jumpRelativeIf cc _ | jumpIf cc _ | callIf cc _ | retIf cc => cases cc
  case alu op src => exact congrArg (fun v => aluUpdates op s.a v (s.flag .cy)) (s.readSrc_other_sink other src)
  case loadReg r src => exact congrArg (fun v => [Update.reg r v]) (s.readSrc_other_sink other src)
  case storeHL src => exact congrArg (fun v => [Update.store s.hl v]) (s.readSrc_other_sink other src)
  all_goals rfl

/-- An instruction sends the same bytes after whatever the sink holds, and its effect apart from the sink does not depend on it. -/
theorem effectOf_other_sink (i : Instr) (s : State) :
    ∃ out : List Byte, ∀ other : List Byte,
      effectOf i { s with sink := other } = { effectOf i s with sink := other ++ out } := by
  cases hr : faultReason s.cfg i.opcode with
  | some r => exact ⟨[], fun other => by simp [effectOf, State.faultOr, hr, State.raise]⟩
  | none =>
    refine ⟨((actionOf i).updates (s.advance i.length)).flatMap Update.sent, fun other => ?_⟩
    have hadvance : ({ s with sink := other } : State).advance i.length = { s.advance i.length with sink := other } := rfl
    simp only [effectOf, State.faultOr, hr, hadvance, Action.run_eq_updateAll, Action.updates_other_sink,
      State.updateAll_other_sink]

/-- Settles O17: the sink only gets bytes appended, and whatever else it held would leave the same state and the same bytes. -/
theorem sinkIsNeverRead : Obligations.SinkIsNeverRead := by
  unfold Obligations.SinkIsNeverRead
  intro s t hstep
  obtain ⟨hmark, hexec⟩ := step_cases hstep
  obtain rfl : effectOf s.fetchInstr s = t := Host.Outcome.next.inj ((exec_eq_effectOf _ s).symm.trans hexec)
  obtain ⟨out, hout⟩ := effectOf_other_sink s.fetchInstr s
  refine ⟨out, congrArg State.sink (hout s.sink), fun other => ?_⟩
  have hstep' : step { s with sink := other } = exec s.fetchInstr { s with sink := other } := step_of_unmarked hmark
  rw [hstep', exec_eq_effectOf, hout]

/-! ### The invariant -/

theorem Action.run_cfg (x : Action) (s : State) : (x.run s).cfg = s.cfg := by
  rw [Action.run_eq_updateAll]
  exact State.updateAll_keeps State.cfg s (fun u _ t => t.update_cfg u)

theorem Action.run_faultMark (x : Action) (s : State) : (x.run s).faultMark = s.faultMark := by
  rw [Action.run_eq_updateAll]
  exact State.updateAll_keeps State.faultMark s (fun u _ t => t.update_faultMark u)

theorem Action.run_wf (x : Action) {s : State} (h : s.mem.wf) : (x.run s).mem.wf := by
  rw [Action.run_eq_updateAll]
  exact List.foldlRecOn _ State.update (motive := fun t => t.mem.wf) h (fun t ht u _ => State.update_wf ht u)

theorem Action.run_low_eq_zero (x : Action) {s : State} (h : s.f &&& 0x0F#8 = 0#8) : (x.run s).f &&& 0x0F#8 = 0#8 := by
  rw [Action.run_eq_updateAll]
  exact List.foldlRecOn _ State.update (motive := fun t => t.f &&& 0x0F#8 = 0#8) h
    (fun t ht u _ => State.low_update_eq_zero ht u)

/-- Settles O13: raising marks the state with the fault due at PC and changes nothing else, and an action keeps each part. -/
theorem stepKeepsTheInvariant : Obligations.StepKeepsTheInvariant := by
  unfold Obligations.StepKeepsTheInvariant
  intro s t hinv hstep
  obtain ⟨hwf, hlow, -⟩ := hinv
  obtain ⟨hmark, hexec⟩ := step_cases hstep
  obtain ⟨r, hr, rfl⟩ | ⟨-, rfl⟩ := exec_cases hexec
  · rw [opcode_fetchInstr] at hr
    exact ⟨hwf, hlow, .inr hr.symm⟩
  · exact ⟨Action.run_wf _ hwf, Action.run_low_eq_zero _ hlow, .inl ((Action.run_faultMark ..).trans hmark)⟩

/-- Settles O12: the bytes, F and the mark at construction. -/
theorem constructionMeetsTheInvariant : Obligations.ConstructionMeetsTheInvariant := by
  have hconstruct (cfg : Config) : (State.construct cfg).Inv :=
    ⟨⟨List.Pairwise.nil, fun _ hcell => absurd hcell List.not_mem_nil⟩, by simp [State.construct], .inl rfl⟩
  exact ⟨hconstruct, hconstruct _⟩

/-! ### Runs that never fault -/

/-- Under parameters with no fault value no opcode is due a fault (R33). -/
theorem faultReason_eq_none {cfg : Config} (h : neverFaults cfg) (op : Byte) : faultReason cfg op = none := by
  obtain ⟨hundef, hnongoal, hdaa⟩ := h
  simp [faultReason, hundef, hnongoal, hdaa]

/-- An unmarked state whose parameters hold no fault value steps to another under the same parameters. -/
theorem step_of_neverFaults {s : State} (hmark : s.faultMark = none) (hcfg : neverFaults s.cfg) :
    ∃ t, step s = .next t ∧ t.faultMark = none ∧ t.cfg = s.cfg := by
  refine ⟨effectOf s.fetchInstr s, (step_of_unmarked hmark).trans (exec_eq_effectOf ..), ?_⟩
  simp only [effectOf, State.faultOr, faultReason_eq_none hcfg]
  exact ⟨(Action.run_faultMark ..).trans hmark, Action.run_cfg ..⟩

/-- Settles O10, by induction on the number of steps. -/
theorem nothingFaultsUnderNopPolicies : Obligations.NothingFaultsUnderNopPolicies := by
  unfold Obligations.NothingFaultsUnderNopPolicies
  refine ⟨by decide, fun k => ?_⟩
  induction k with
  | zero => exact fun s hmark _ => ⟨s, rfl, hmark⟩
  | succ k ih =>
    intro s hmark hcfg
    obtain ⟨t, hstep, htmark, htcfg⟩ := step_of_neverFaults hmark hcfg
    obtain ⟨u, hrun, humark⟩ := ih t htmark (htcfg ▸ hcfg)
    exact ⟨u, (run_succ hstep).trans hrun, humark⟩

/-! ### Frames -/

theorem Action.run_readReg {x : Action} {s : State} {r : Reg8} (h : r ∉ x.regs s.cfg) : (x.run s).readReg r = s.readReg r := by
  rw [Action.run_eq_updateAll]
  refine State.updateAll_keeps (fun t => t.readReg r) s (fun u hu => State.readReg_update ?_)
  rintro v rfl
  exact h (x.mayMake_of_mem_updates s _ hu)

theorem Action.run_sp {x : Action} (s : State) (h : x.writesSP = false) : (x.run s).sp = s.sp := by
  rw [Action.run_eq_updateAll]
  refine State.updateAll_keeps State.sp s (fun u hu => State.update_sp ?_)
  rintro v rfl
  exact Bool.eq_false_iff.mp h (x.mayMake_of_mem_updates s _ hu)

theorem Action.run_pc {x : Action} (s : State) (h : x.transfers = false) : (x.run s).pc = s.pc := by
  rw [Action.run_eq_updateAll]
  refine State.updateAll_keeps State.pc s (fun u hu => State.update_pc ?_)
  rintro v rfl
  exact Bool.eq_false_iff.mp h (x.mayMake_of_mem_updates s _ hu)

theorem Action.run_low {x : Action} (s : State) (h : x ≠ .pop .af) : (x.run s).f &&& 0x0F#8 = s.f &&& 0x0F#8 := by
  rw [Action.run_eq_updateAll]
  refine State.updateAll_keeps (fun t => t.f &&& 0x0F#8) s (fun u hu => State.low_update ?_)
  rintro v rfl
  exact h (x.mayMake_of_mem_updates s _ hu)

theorem Action.run_flag {x : Action} {s : State} {fl : Flag} (h : fl ∉ x.flags s.cfg) : (x.run s).flag fl = s.flag fl := by
  rw [Action.run_eq_updateAll]
  refine State.updateAll_keeps (fun t => t.flag fl) s (fun u hu => State.flag_update ?_ ?_)
  · rintro v rfl
    exact h (x.mayMake_of_mem_updates s _ hu)
  · rintro v rfl
    obtain rfl : x = .pop .af := x.mayMake_of_mem_updates s _ hu
    exact h (by cases fl <;> simp [Action.flags])

theorem actionOf_eq_pop_af {i : Instr} (h : actionOf i = .pop .af) : i = .popAF := by
  cases i with
  | popAF => rfl
  | _ => cases h

/-- Settles O20: raising writes no register, and an action writes those its table lists. -/
theorem registerFrame : Obligations.RegisterFrame := by
  unfold Obligations.RegisterFrame
  intro i s t hexec
  rw [regsWritten_eq_regs, mayWriteSP_eq_writesSP]
  obtain ⟨r, -, rfl⟩ | ⟨-, rfl⟩ := exec_cases hexec
  · exact ⟨fun x _ => by cases x <;> rfl, fun _ => rfl⟩
  · exact ⟨fun x hx => (Action.run_readReg (s := s.advance i.length) hx).trans (s.readReg_advance ..), Action.run_sp _⟩

/-- Settles O21: without a mark the instruction ran, and only a transfer writes the PC that is past it. -/
theorem pcAfterANonTransfer : Obligations.PcAfterANonTransfer := by
  unfold Obligations.PcAfterANonTransfer
  intro i s t _ hexec hmark htransfer
  rw [isTransfer_eq_transfers] at htransfer
  obtain ⟨r, -, rfl⟩ | ⟨-, rfl⟩ := exec_cases hexec
  · cases hmark
  · exact Action.run_pc _ htransfer

/-- Settles O19: raising writes no flag, an action writes those its table lists, and F as a whole is written by POP AF alone. -/
theorem flagFrame : Obligations.FlagFrame := by
  unfold Obligations.FlagFrame
  intro i s t hexec
  rw [flagsWritten_eq_flags]
  refine ⟨?_, ?_, ?_⟩
  · intro fl hfl
    obtain ⟨r, -, rfl⟩ | ⟨-, rfl⟩ := exec_cases hexec
    · rfl
    · exact Action.run_flag hfl
  · intro hi
    obtain ⟨r, -, rfl⟩ | ⟨-, rfl⟩ := exec_cases hexec
    · rfl
    · exact Action.run_low _ (fun hpop => hi (actionOf_eq_pop_af hpop))
  · rintro rfl
    obtain rfl := Host.Outcome.next.inj ((exec_pop .af s).symm.trans hexec)
    exact State.low_writeF ..

/-! ### Memory in canonical form -/

theorem Memory.mem_of_read_ne_unlisted {m : Memory} {a : Nat} (h : m.read a ≠ Memory.unlisted) : (a, m.read a) ∈ m := by
  induction m with
  | nil => exact absurd rfl h
  | cons cell rest ih =>
    by_cases hcell : cell.1 = a
    · subst hcell
      simp [Memory.read]
    · simp only [Memory.read, if_neg hcell] at h ⊢
      exact List.mem_cons_of_mem _ (ih h)

/-- Where addresses rise, an address is listed once, so its cell is what it reads as. -/
theorem Memory.read_of_mem {m : Memory} (h : m.Pairwise (fun x y => x.1 < y.1)) {cell : Host.Cell} (hcell : cell ∈ m) :
    m.read cell.1 = cell.2 := by
  induction m with
  | nil => cases hcell
  | cons first rest ih =>
    obtain ⟨hfirst, hrest⟩ := List.pairwise_cons.mp h
    obtain rfl | hmem := List.mem_cons.mp hcell
    · simp [Memory.read]
    · simp only [Memory.read, if_neg (hfirst cell hmem).ne]
      exact ih hrest hmem

theorem Memory.subset_of_reads {m m' : Memory} (h : m.wf) (hread : ∀ x : Word, m.read x.toNat = m'.read x.toNat) : m ⊆ m' := by
  intro cell hcell
  obtain ⟨hrising, hcells⟩ := h
  obtain ⟨hlt, hlisted⟩ := hcells cell hcell
  have hsame : m'.read cell.1 = cell.2 := by
    have haddress : (BitVec.ofNat 16 cell.1).toNat = cell.1 := Nat.mod_eq_of_lt hlt
    rw [← Memory.read_of_mem hrising hcell, ← haddress, hread]
  have hmem := Memory.mem_of_read_ne_unlisted (m := m') (a := cell.1) (by rwa [hsame])
  rwa [hsame] at hmem

/-- Settles O23: both lists hold the same cells, and lists in strictly rising order are determined by their members. -/
theorem canonicalMemoryIsItsBytes : Obligations.CanonicalMemoryIsItsBytes := by
  unfold Obligations.CanonicalMemoryIsItsBytes
  intro m m' hwf hwf' hread
  have hirrefl : Std.Irrefl (fun x y : Host.Cell => x.1 < y.1) := ⟨fun x => lt_irrefl x.1⟩
  have hantisymm : Std.Antisymm (fun x y : Host.Cell => x.1 < y.1) := ⟨fun _ _ hxy hyx => absurd hyx hxy.asymm⟩
  exact List.Subset.antisymm_of_pairwise hwf.1 hwf'.1 (Memory.subset_of_reads hwf hread)
    (Memory.subset_of_reads hwf' (fun x => (hread x).symm))

/-! ### Construction and the loader -/

theorem State.load_with_mem (s : State) (x : Word) (bytes : List Byte) :
    ({ s.load x bytes with mem := s.mem } : State) = s := by
  apply State.eq_of <;> simp

/-- The loader leaves every address past its bytes alone. -/
theorem State.memRead_load_of_ne (s : State) (x y : Word) (bytes : List Byte)
    (h : ∀ k : Nat, k < bytes.length → y ≠ x + BitVec.ofNat 16 k) : (s.load x bytes).memRead y = s.memRead y := by
  induction bytes generalizing s x with
  | nil => rfl
  | cons v rest ih =>
    have hhead : y ≠ x := by simpa using h 0 (by simp)
    have htail : ∀ k : Nat, k < rest.length → y ≠ x + 1#16 + BitVec.ofNat 16 k := by
      intro k hk
      have hne := h (k + 1) (by simpa using hk)
      rwa [BitVec.add_assoc, ← BitVec.ofNat_add, Nat.add_comm 1 k]
    rw [State.load, ih _ _ htail, State.memRead_store, if_neg hhead]

/-- Each byte of the load is read back, where none of the bytes after it comes round to its address. -/
theorem State.memRead_load (s : State) (x : Word) {bytes : List Byte} {k : Nat} {v : Byte} (hv : bytes[k]? = some v)
    (hlen : bytes.length ≤ 65536 + k) : (s.load x bytes).memRead (x + BitVec.ofNat 16 k) = v := by
  induction bytes generalizing s x k with
  | nil => simp at hv
  | cons b rest ih =>
    cases k with
    | zero =>
      obtain rfl : b = v := by simpa using hv
      have hpast : ∀ j : Nat, j < rest.length → x + BitVec.ofNat 16 0 ≠ x + 1#16 + BitVec.ofNat 16 j := by
        intro j hj
        rw [List.length_cons] at hlen
        bv_omega
      rw [State.load, State.memRead_load_of_ne _ _ _ _ hpast, State.memRead_store, if_pos (BitVec.add_zero x)]
    | succ k =>
      have hnext : x + BitVec.ofNat 16 (k + 1) = x + 1#16 + BitVec.ofNat 16 k := by
        rw [BitVec.add_assoc, ← BitVec.ofNat_add, Nat.add_comm 1 k]
      rw [State.load, hnext]
      exact ih _ _ (by simpa using hv) (by rw [List.length_cons] at hlen; omega)

/-- Settles O11: the construction values by their definition, the loader by induction on its bytes. -/
theorem constructionValues : Obligations.ConstructionValues := by
  unfold Obligations.ConstructionValues
  refine ⟨fun cfg => ?_, rfl, rfl, fun s x bytes => ⟨s.load_with_mem x bytes, fun k v => s.memRead_load x, fun y => ?_⟩⟩
  · have hjoin : joinBytes 0#8 0#8 = 0#16 := by decide
    exact ⟨rfl, rfl, rfl, rfl, rfl, rfl, rfl, rfl, rfl, hjoin, hjoin, hjoin, hjoin, rfl, fun _ => BitVec.getLsbD_zero,
      fun _ => rfl, rfl, rfl, rfl⟩
  · exact s.memRead_load_of_ne x y bytes

/-! ### Registers and flags -/

/-- Settles O24: halves by the register laws, pairs by taking a word apart into its bytes and putting it together. -/
theorem registerHalvesAndPairs : Obligations.RegisterHalvesAndPairs := by
  unfold Obligations.RegisterHalvesAndPairs
  refine ⟨fun s r x v => ?_, fun s => ?_, fun s v => ?_⟩
  · exact ⟨s.readReg_writeReg r x v, s.writeReg_f r v, s.writeReg_sp r v, s.writeReg_pc r v⟩
  · exact ⟨toNat_joinBytes .., toNat_joinBytes .., toNat_joinBytes .., toNat_joinBytes ..⟩
  · exact ⟨⟨rfl, joinBytes_hi_lo v⟩, ⟨rfl, joinBytes_hi_lo v⟩, ⟨rfl, joinBytes_hi_lo v⟩, rfl⟩

theorem toNat_flagByte (z n h cy : Bool) :
    (flagByte z n h cy).toNat = z.toNat * 0x80 + n.toNat * 0x40 + h.toNat * 0x20 + cy.toNat * 0x10 := by
  revert z n h cy; decide

/-- Settles O25: the flags are bits of F, F is its flags and its low bits, and the laws of the flag primitives. -/
theorem flagBitsAndPrimitives : Obligations.FlagBitsAndPrimitives := by
  unfold Obligations.FlagBitsAndPrimitives
  refine ⟨fun s => ⟨rfl, rfl, rfl, rfl⟩, fun s hlow => ?_, fun s fl x v => ?_, fun s v => ?_⟩
  · calc s.f.toNat
        = (s.withFlags (s.flag .z) (s.flag .n) (s.flag .h) (s.flag .cy)).toNat := congrArg BitVec.toNat s.f_eq_withFlags
      _ = (flagByte (s.flag .z) (s.flag .n) (s.flag .h) (s.flag .cy)).toNat := by
          rw [State.withFlags, hlow, BitVec.or_zero]
      _ = _ := toNat_flagByte ..
  · exact ⟨s.flag_setFlag fl x v, s.low_setFlag fl v, rfl⟩
  · refine ⟨s.low_writeF v, ?_, rfl⟩
    simp [BitVec.and_assoc]

end Sys2Proof.Machine

namespace Sys2Proof.Machine

/-! ### The addresses an action writes

`Action.addresses` says for each action which addresses its updates store to, and agrees with `storeAddresses` on every row of the
opcode map. What a read of memory sees and how many bytes reach the sink are then facts about that list. -/

/-- The address an update stores to, if it is a store. -/
def Update.addresses (u : Update) : List Word :=
  match u with
  | .store a _ => [a]
  | _ => []

/-- The addresses an action writes, from the state before it. -/
def Action.addresses (x : Action) (s : State) : List Word :=
  match x with
  | .incAtHL | .decAtHL | .storeHL _ => [s.hl]
  | .storeA m => [s.accAddress m]
  | .storeSP a => [a, a + 1#16]
  | .push _ | .call _ => [s.sp - 1#16, s.sp - 2#16]
  | .callIf cc _ => if s.cond cc then [s.sp - 1#16, s.sp - 2#16] else []
  | _ => []

theorem storeAddresses_eq_addresses (i : Instr) (s : State) :
    storeAddresses i s = (actionOf i).addresses (s.advance i.length) := by
  cases i <;> rfl

/-- The addresses a list of updates stores to, in their order. -/
def storedTo (us : List Update) : List Word := us.flatMap Update.addresses

@[simp] theorem storedTo_pairUpdates (p : Pair) (v : Word) : storedTo (pairUpdates p v) = [] := by
  cases p <;> rfl

@[simp] theorem storedTo_stackPairUpdates (q : StackPair) (v : Word) : storedTo (stackPairUpdates q v) = [] := by
  cases q <;> rfl

@[simp] theorem storedTo_accUpdates (hl : Word) (m : AccMem) : storedTo (accUpdates hl m) = [] := by
  cases m <;> rfl

@[simp] theorem storedTo_aluUpdates (op : AluOp) (a v : Byte) (cy : Bool) : storedTo (aluUpdates op a v cy) = [] := by
  cases op <;> rfl

@[simp] theorem storedTo_incDecFlagUpdates (cfg : Config) (z n h : Bool) : storedTo (incDecFlagUpdates cfg z n h) = [] := by
  unfold incDecFlagUpdates; split <;> rfl

@[simp] theorem storedTo_rotaFlagUpdates (cfg : Config) : storedTo (rotaFlagUpdates cfg) = [] := by
  unfold rotaFlagUpdates; split <;> rfl

/-- The updates of an action store to its addresses. -/
theorem Action.storedTo_updates (x : Action) (s : State) : storedTo (x.updates s) = x.addresses s := by
  cases x with
  | incReg r | decReg r => exact storedTo_incDecFlagUpdates ..
  | incAtHL | decAtHL => exact congrArg (s.hl :: ·) (storedTo_incDecFlagUpdates ..)
  | incPair p | decPair p | writePair p v => exact storedTo_pairUpdates ..
  | alu op src => exact storedTo_aluUpdates ..
  | rotate op => exact storedTo_rotaFlagUpdates _
  | storeA m => exact congrArg (s.accAddress m :: ·) (storedTo_accUpdates s.hl m)
  | loadA m => exact storedTo_accUpdates s.hl m
  | pop q => exact storedTo_stackPairUpdates ..
  | daa | jumpRelativeIf cc e | jumpIf cc a | retIf cc | reti => simp only [Action.updates]; split <;> rfl
  | callIf cc a => simp only [Action.updates, Action.addresses]; split <;> rfl
  | _ => rfl

/-- No action writes an address twice. -/
theorem Action.nodup_addresses (x : Action) (s : State) : (x.addresses s).Nodup := by
  have hpush : s.sp - 1#16 ≠ s.sp - 2#16 := by bv_omega
  cases x with
  | storeSP a =>
    have ha : a ≠ a + 1#16 := by bv_omega
    simp [Action.addresses, ha]
  | push q | call a => simp [Action.addresses, hpush]
  | callIf cc a => by_cases hcc : s.cond cc <;> simp [Action.addresses, hcc, hpush]
  | _ => simp [Action.addresses]

/-! ### What a read of memory sees -/

theorem State.memRead_update {x : Word} {u : Update} (h : x ∉ u.addresses) (s : State) :
    (s.update u).memRead x = s.memRead x := by
  cases u with
  | store a v =>
    have hx : x ≠ a := by simpa [Update.addresses] using h
    simp [State.update, State.memRead_memWrite, hx]
  | _ => exact State.memRead_congr (by simp [State.update]) x

/-- No update stores a byte at 0xFF01 (R56). -/
theorem State.memRead_sinkAddress_update (s : State) (u : Update) :
    (s.update u).memRead sinkAddress = s.memRead sinkAddress := by
  cases u with
  | store a v =>
    have ha : ¬(sinkAddress = a ∧ a ≠ sinkAddress) := fun h => h.2 h.1.symm
    exact (s.memRead_memWrite a sinkAddress v).trans (if_neg ha)
  | _ => exact State.memRead_congr (by simp [State.update]) sinkAddress

theorem Action.memRead_run {x : Action} {s : State} {a : Word} (h : a ∉ x.addresses s) :
    (x.run s).memRead a = s.memRead a := by
  rw [← x.storedTo_updates] at h
  rw [Action.run_eq_updateAll]
  exact State.updateAll_keeps (fun t => t.memRead a) s
    (fun u hu => State.memRead_update (fun ha => h (List.mem_flatMap_of_mem hu ha)))

theorem Action.memRead_sinkAddress_run (x : Action) (s : State) :
    (x.run s).memRead sinkAddress = s.memRead sinkAddress := by
  rw [Action.run_eq_updateAll]
  exact State.updateAll_keeps (fun t => t.memRead sinkAddress) s (fun u _ t => t.memRead_sinkAddress_update u)

theorem step_memRead_sinkAddress {s t : State} (h : step s = .next t) : t.memRead sinkAddress = s.memRead sinkAddress := by
  obtain ⟨-, hexec⟩ := step_cases h
  obtain ⟨r, -, rfl⟩ | ⟨-, rfl⟩ := exec_cases hexec
  · rfl
  · exact Action.memRead_sinkAddress_run ..

/-- A run of more than no steps that reaches a state is a first step and the run after it. -/
theorem run_succ_cases {k : Nat} {s t : State} (h : Host.Core.run Sys2Proof.core (k + 1) s = .next t) :
    ∃ u, step s = .next u ∧ Host.Core.run Sys2Proof.core k u = .next t := by
  cases hstep : step s with
  | next u => exact ⟨u, rfl, (run_succ hstep).symm.trans h⟩
  | fault r =>
    have hstep' : Sys2Proof.core.step s = .fault r := hstep
    simp [Host.Core.run, hstep'] at h
  | refused r =>
    have hstep' : Sys2Proof.core.step s = .refused r := hstep
    simp [Host.Core.run, hstep'] at h

/-- Settles O15, by induction on the number of steps: no update of a step stores at 0xFF01. -/
theorem byteAtSinkAddressNeverChanges : Obligations.ByteAtSinkAddressNeverChanges := by
  unfold Obligations.ByteAtSinkAddressNeverChanges
  intro k
  induction k with
  | zero =>
    intro s t hrun
    obtain rfl : s = t := Host.Outcome.next.inj hrun
    rfl
  | succ k ih =>
    intro s t hrun
    obtain ⟨u, hstep, hrest⟩ := run_succ_cases hrun
    exact (ih u t hrest).trans (step_memRead_sinkAddress hstep)

/-- Settles O18: raising writes no byte, and an action stores to its addresses alone. -/
theorem memoryFrame : Obligations.MemoryFrame := by
  unfold Obligations.MemoryFrame
  intro i s t x hexec hx
  rw [storeAddresses_eq_addresses] at hx
  obtain ⟨r, -, rfl⟩ | ⟨-, rfl⟩ := exec_cases hexec
  · rfl
  · exact Action.memRead_run hx

/-! ### What reaches the sink -/

/-- Updates send one byte to the sink for each store at 0xFF01 (R56). -/
theorem length_flatMap_sent (us : List Update) :
    (us.flatMap Update.sent).length = (storedTo us).count sinkAddress := by
  induction us with
  | nil => rfl
  | cons u us ih =>
    have hu : u.sent.length = u.addresses.count sinkAddress := by
      cases u with
      | store a v => by_cases ha : a = sinkAddress <;> simp [Update.sent, Update.addresses, ha]
      | _ => rfl
    have hus : storedTo (u :: us) = u.addresses ++ storedTo us := List.flatMap_cons
    simp only [hus, List.flatMap_cons, List.length_append, List.count_append, hu, ih]

/-- An action appends as many bytes to the sink as 0xFF01 stands among its addresses. -/
theorem Action.run_sink (x : Action) (s : State) :
    ∃ out : List Byte, (x.run s).sink = s.sink ++ out ∧ out.length = (x.addresses s).count sinkAddress := by
  refine ⟨(x.updates s).flatMap Update.sent, ?_, ?_⟩
  · rw [Action.run_eq_updateAll]
    exact congrArg State.sink (s.updateAll_other_sink s.sink (x.updates s))
  · rw [length_flatMap_sent, x.storedTo_updates]

/-- An action leaves the sink, or writes 0xFF01 and appends one byte (R56, R60). -/
theorem Action.run_sink_cases (x : Action) (s : State) :
    (x.run s).sink = s.sink ∨ (∃ v : Byte, (x.run s).sink = s.sink ++ [v]) ∧ sinkAddress ∈ x.addresses s := by
  obtain ⟨out, hsink, hlength⟩ := x.run_sink s
  have honce := List.nodup_iff_count_le_one.mp (x.nodup_addresses s) sinkAddress
  rw [hsink]
  match out with
  | [] => exact .inl (List.append_nil _)
  | [v] => exact .inr ⟨⟨v, rfl⟩, List.count_pos_iff.mp (by simp [← hlength])⟩
  | _ :: _ :: _ => simp only [List.length_cons] at hlength; omega

/-- Settles O16: raising leaves the sink, and an action appends at most one byte, by a write of 0xFF01. -/
theorem stepSendsAtMostOneByteToTheSink : Obligations.StepSendsAtMostOneByteToTheSink := by
  unfold Obligations.StepSendsAtMostOneByteToTheSink
  intro s t hstep
  rw [storeAddresses_eq_addresses]
  obtain ⟨-, hexec⟩ := step_cases hstep
  obtain ⟨r, -, rfl⟩ | ⟨-, rfl⟩ := exec_cases hexec
  · exact ⟨.inl rfl, fun hchanged => absurd rfl hchanged⟩
  · obtain hsame | ⟨hsent, hwrites⟩ := Action.run_sink_cases (actionOf s.fetchInstr) (s.advance s.fetchInstr.length)
    · exact ⟨.inl hsame, fun hchanged => absurd hsame hchanged⟩
    · exact ⟨.inr hsent, fun _ => hwrites⟩

/-! ### The access primitives -/

theorem State.memWrite_of_ne {a : Word} (h : a ≠ sinkAddress) (s : State) (v : Byte) :
    s.memWrite a v = { s with mem := s.mem.write a.toNat v } := if_neg h

theorem State.memWrite_sinkAddress (s : State) (v : Byte) :
    s.memWrite sinkAddress v = { s with sink := s.sink ++ [v] } := if_pos rfl

/-- Settles O22: a write is a store or an append by its address, and a 16-bit read joins two bytes. -/
theorem memoryAccess : Obligations.MemoryAccess := by
  unfold Obligations.MemoryAccess
  refine ⟨fun s a x v ha => ?_, fun s v => ⟨s.memWrite_sinkAddress v, ?_⟩, fun s a => ?_⟩
  · rw [State.memWrite_of_ne ha]
    exact ⟨s.memRead_store a x v, rfl⟩
  · exact State.memRead_congr (congrArg State.mem (s.memWrite_sinkAddress v)) _
  · rw [State.memRead16, toNat_joinBytes, Nat.mul_comm]

end Sys2Proof.Machine

namespace Sys2Proof

/-! ### The decoder and the encoder agree

The decoder is the opcode map of R89, row by row; the encoder lists each constructor's bytes on its own. -/

/-- Encoding, then decoding: the opcode byte selects the constructor and counts its immediates (R80, R81), and the two bytes of a
16-bit immediate join to it again (R88). -/
theorem decode_encode (i : Instr) (rest : List Byte) : decode (i.encode ++ rest) = .instr i rest := by
  cases i with
  | ldBCD16 v | ldDED16 v | ldHLD16 v | ldSPD16 v | ldAtA16SP v | ldAtA16A v | ldAAtA16 v | jpA16 v | jpNZA16 v | jpZA16 v
  | jpNCA16 v | jpCA16 v | callA16 v | callNZA16 v | callZA16 v | callNCA16 v | callCA16 v =>
    exact congrArg (Decoded.instr · rest) (congrArg _ (joinBytes_hi_lo v))
  | _ => rfl

/-- Settles O1, instruction by instruction: `decode_encode`. -/
theorem decodeOfEncodeIsTheInstruction : Obligations.DecodeOfEncodeIsTheInstruction := by
  unfold Obligations.DecodeOfEncodeIsTheInstruction
  exact decode_encode

/-- What follows the opcode byte in the encoding of a decoded instruction is the immediates that its opcode counts. -/
theorem encode_tail_decodeOp (op b1 b2 : Byte) :
    (decodeOp op b1 b2).encode.tail = [b1, b2].take (immediateCount op) := by
  have hcount : ∀ op : Byte, immediateCount op = (decodeOp op 0#8 0#8).encode.tail.length := by decide
  rw [hcount]
  -- The immediates are the halves of one word, so that in each cell of the map both sides compute.
  have hlo : b1 = loByte (joinBytes b2 b1) := (loByte_joinBytes b2 b1).symm
  have hhi : b2 = hiByte (joinBytes b2 b1) := (hiByte_joinBytes b2 b1).symm
  unfold decodeOp decodeRow0 decodeRow1 decodeRow2 decodeRow3 decodeRowC decodeRowD decodeRowE decodeRowF
  generalize rowOf op = row, columnOf op = column, joinBytes b2 b1 = w at hlo hhi ⊢
  subst hlo hhi
  cases row <;> cases column <;> rfl

theorem encode_eq_opcode_cons (i : Instr) : i.encode = i.opcode :: i.encode.tail := by
  cases i <;> rfl

/-- The encoding of a decoded instruction is the bytes it was decoded from (R80, R81). -/
theorem encode_decodeOp (op b1 b2 : Byte) :
    (decodeOp op b1 b2).encode = op :: [b1, b2].take (immediateCount op) := by
  rw [encode_eq_opcode_cons, opcode_decodeOp, encode_tail_decodeOp]

/-- What `decode` reads is the map's instruction at the opcode byte and the immediates that it counts. -/
theorem decode_cases {bytes rest : List Byte} {i : Instr} (h : decode bytes = .instr i rest) :
    ∃ op b1 b2 : Byte, bytes = op :: [b1, b2].take (immediateCount op) ++ rest ∧ i = decodeOp op b1 b2 := by
  match bytes with
  | [] => cases h
  | op :: after =>
    unfold decode at h
    dsimp only at h
    split at h
    case h_1 hcount => cases h; exact ⟨op, 0#8, 0#8, by rw [hcount]; rfl, rfl⟩
    case h_2 b1 _ hcount => cases h; exact ⟨op, b1, 0#8, by rw [hcount]; rfl, rfl⟩
    case h_3 b1 b2 _ hcount => cases h; exact ⟨op, b1, b2, by rw [hcount]; rfl, rfl⟩
    case h_4 => cases h

/-- Settles O2: the bytes read are the encoding of what the map gives for them. -/
theorem encodeOfDecodeIsTheBytes : Obligations.EncodeOfDecodeIsTheBytes := by
  unfold Obligations.EncodeOfDecodeIsTheBytes
  intro bytes rest i h
  obtain ⟨op, b1, b2, rfl, rfl⟩ := decode_cases h
  rw [encode_decodeOp]

/-- Settles O4: the map computes on each word. -/
theorem sampleOpcodeBytesDecode : Obligations.SampleOpcodeBytesDecode := by
  unfold Obligations.SampleOpcodeBytesDecode
  exact ⟨rfl, rfl, rfl, rfl, rfl, rfl, rfl, rfl, rfl, rfl, rfl, rfl, rfl⟩

end Sys2Proof

namespace Sys2Proof

/-! ### Every instruction stands in the opcode map -/

/-- The map reaches an instruction at the bytes of its encoding (R103), three at most. -/
theorem exists_decodeOp_eq (i : Instr) : ∃ op b1 b2 : Byte, decodeOp op b1 b2 = i := by
  obtain ⟨op, b1, b2, -, hi⟩ := decode_cases (decode_encode i [])
  exact ⟨op, b1, b2, hi.symm⟩

theorem length_encode_le (i : Instr) : i.encode.length ≤ 3 := by
  obtain ⟨op, b1, b2, rfl⟩ := exists_decodeOp_eq i
  rw [encode_decodeOp, List.length_cons, List.length_take]
  exact Nat.succ_le_succ (min_le_right ..)

theorem immediateCount_le (op : Byte) : immediateCount op ≤ 2 := by
  unfold immediateCount
  split_ifs <;> decide

/-- Settles O3: the encoding of a decoded instruction gives back its opcode byte, and decoding an encoding reaches any instruction. -/
theorem everyOpcodeByteSelectsOneInstruction : Obligations.EveryOpcodeByteSelectsOneInstruction := by
  unfold Obligations.EveryOpcodeByteSelectsOneInstruction
  refine ⟨encode_decodeOp, immediateCount_le, fun op op' b1 b2 b1' b2' h => ?_, exists_decodeOp_eq⟩
  calc op = (decodeOp op b1 b2).opcode := (opcode_decodeOp ..).symm
    _ = (decodeOp op' b1' b2').opcode := congrArg Instr.opcode h
    _ = op' := opcode_decodeOp ..

/-- Three bytes are enough for `decode` to read what the map gives for them (R81). -/
theorem decode_three_bytes (op b1 b2 : Byte) :
    decode [op, b1, b2] = .instr (decodeOp op b1 b2) ([b1, b2].drop (immediateCount op)) := by
  have hbytes : [op, b1, b2] = (decodeOp op b1 b2).encode ++ [b1, b2].drop (immediateCount op) := by
    rw [encode_decodeOp, List.cons_append, List.take_append_drop]
  rw [hbytes, decode_encode]

end Sys2Proof

namespace Sys2Proof.Machine

/-! ### The step -/

/-- What `decode` reads from the bytes at PC is the instruction the step runs (R102). -/
theorem fetchInstr_eq_of_decode {s : State} {i : Instr} {rest : List Byte} (h : decode s.fetchBytes = .instr i rest) :
    s.fetchInstr = i := by
  injection (decode_three_bytes ..).symm.trans h

/-- Settles O5: the instruction at PC is the one decoded. -/
theorem stepRunsTheDecodedInstruction : Obligations.StepRunsTheDecodedInstruction := by
  unfold Obligations.StepRunsTheDecodedInstruction
  intro s i rest hmark hdecode
  rw [step_of_unmarked hmark, fetchInstr_eq_of_decode hdecode]

theorem State.getElem?_fetchBytes (s : State) {k : Nat} (h : k < 3) :
    s.fetchBytes[k]? = some (s.memRead (s.pc + BitVec.ofNat 16 k)) := by
  match k with
  | 0 => exact congrArg (fun x => some (s.memRead x)) (BitVec.add_zero s.pc).symm
  | 1 | 2 => rfl

/-- The bytes at PC begin with an instruction stored there, since none is longer than the fetch (R81). -/
theorem encode_prefix_fetchBytes {s : State} {i : Instr}
    (h : ∀ (k : Nat) (b : Byte), i.encode[k]? = some b → s.memRead (s.pc + BitVec.ofNat 16 k) = b) :
    i.encode <+: s.fetchBytes := by
  refine List.prefix_iff_getElem?.mpr fun k hk => ?_
  rw [s.getElem?_fetchBytes (hk.trans_le (length_encode_le i)), h k _ (List.getElem?_eq_getElem hk)]

/-- Settles O6: the bytes at PC are the encoding and others after it, so they decode to the instruction. -/
theorem stepRunsTheInstructionStoredAtPc : Obligations.StepRunsTheInstructionStoredAtPc := by
  unfold Obligations.StepRunsTheInstructionStoredAtPc
  intro s i hmark hstored
  obtain ⟨rest, hrest⟩ := encode_prefix_fetchBytes hstored
  exact stepRunsTheDecodedInstruction s i rest hmark (hrest ▸ decode_encode i rest)

/-- Settles O7: the first branch of `step`. -/
theorem faultedStateHasNoStep : Obligations.FaultedStateHasNoStep := by
  unfold Obligations.FaultedStateHasNoStep
  intro s r hmark
  simp only [step, hmark]

/-- Settles O9: the instruction at PC has the opcode byte there, raises the fault due for it, or runs an action, which never marks. -/
theorem faultsExactlyWhenTheParametersSay : Obligations.FaultsExactlyWhenTheParametersSay := by
  unfold Obligations.FaultsExactlyWhenTheParametersSay
  intro s hmark
  rw [← opcode_fetchInstr]
  refine ⟨fun r hr => ?_, fun hnone t hstep => ?_⟩
  · rw [step_of_unmarked hmark, exec_eq_effectOf, effectOf, State.faultOr, hr]
    rfl
  · obtain ⟨-, hexec⟩ := step_cases hstep
    obtain ⟨r, hr, -⟩ | ⟨-, rfl⟩ := exec_cases hexec
    · cases hnone.symm.trans hr
    · exact (Action.run_faultMark ..).trans hmark

/-- Settles O14: neither raising nor an action writes the parameters. -/
theorem parametersNeverChange : Obligations.ParametersNeverChange := by
  unfold Obligations.ParametersNeverChange
  intro s t hstep
  obtain ⟨-, hexec⟩ := step_cases hstep
  obtain ⟨r, -, rfl⟩ | ⟨-, rfl⟩ := exec_cases hexec
  · rfl
  · exact Action.run_cfg ..

/-! ### NOP and the opcodes with no handler -/

/-- Settles O26: `exec` moves PC past the one byte. -/
theorem nopResult : Obligations.NopResult := by
  unfold Obligations.NopResult
  exact ⟨rfl, fun _ => rfl⟩

theorem State.undefinedOp_of_nop {s : State} (h : s.cfg.undefOp = .nop) (op : Byte) : s.undefinedOp op = s.advance 1 := by
  simp only [State.undefinedOp, h]

theorem State.undefinedOp_of_fault {s : State} (h : s.cfg.undefOp = .fault) (op : Byte) :
    s.undefinedOp op = s.raise (.undefinedOpcode op) := by
  simp only [State.undefinedOp, h]

theorem State.nongoalOp_of_nop {s : State} (h : s.cfg.nongoalOp = .nop) (op : Byte) : s.nongoalOp op = s.advance 1 := by
  simp only [State.nongoalOp, h]

theorem State.nongoalOp_of_fault {s : State} (h : s.cfg.nongoalOp = .fault) (op : Byte) :
    s.nongoalOp op = s.raise (.unimplementedOpcode op) := by
  simp only [State.nongoalOp, h]

/-- The opcodes with no instruction share one meaning (R106, R107). -/
theorem exec_of_mem_undefinedOps {x : Byte × Instr} (h : x ∈ Instr.undefinedOps) (s : State) :
    exec x.2 s = .next (s.undefinedOp x.1) := by
  fin_cases h <;> rfl

/-- The opcodes of the non-goals share one meaning (R108 to R111). -/
theorem exec_of_mem_nongoalOps {x : Byte × Instr} (h : x ∈ Instr.nongoalOps) (s : State) :
    exec x.2 s = .next (s.nongoalOp x.1) := by
  fin_cases h <;> rfl

/-- Settles O27: one meaning for all twelve, under each policy. -/
theorem opcodesWithNoInstruction : Obligations.OpcodesWithNoInstruction := by
  unfold Obligations.OpcodesWithNoInstruction
  have hencode : ∀ x ∈ Instr.undefinedOps, x.2.encode = [x.1] := by decide
  refine ⟨rfl, fun x hx => ⟨hencode x hx, fun s => ?_⟩⟩
  rw [exec_of_mem_undefinedOps hx]
  exact ⟨fun hnop => congrArg _ (State.undefinedOp_of_nop hnop x.1),
    fun hfault => congrArg _ (State.undefinedOp_of_fault hfault x.1)⟩

/-- Settles O28: one meaning for all four, under each policy. -/
theorem nonGoalOpcodes : Obligations.NonGoalOpcodes := by
  unfold Obligations.NonGoalOpcodes
  have hencode : ∀ x ∈ Instr.nongoalOps, x.2.encode = [x.1] := by decide
  refine ⟨rfl, fun x hx => ⟨hencode x hx, fun s => ?_⟩⟩
  rw [exec_of_mem_nongoalOps hx]
  exact ⟨fun hnop => congrArg _ (State.nongoalOp_of_nop hnop x.1),
    fun hfault => congrArg _ (State.nongoalOp_of_fault hfault x.1)⟩

end Sys2Proof.Machine

namespace Sys2Proof.Machine

/-! ### INC and DEC

An 8-bit increment and decrement differ in the byte and in N and H alone; how they write F under `INCDEC8_FLAG_POLICY` is said once,
in `State.incDecF`. -/

theorem ofInt_toNat_sub_one {w : Nat} (v : BitVec w) : BitVec.ofInt w (v.toNat - 1) = v - 1#w := by
  apply eq_sub_of_add_eq
  calc BitVec.ofInt w (v.toNat - 1) + 1#w = BitVec.ofInt w (v.toNat - 1 + 1) := by
        rw [BitVec.ofInt_add, BitVec.ofInt_ofNat]
    _ = v := by rw [sub_add_cancel, BitVec.ofInt_natCast, BitVec.ofNat_toNat, BitVec.setWidth_eq]

theorem ofNat_toNat_add_one {w : Nat} (v : BitVec w) : BitVec.ofNat w (v.toNat + 1) = v + 1#w := by
  rw [BitVec.ofNat_add, BitVec.ofNat_toNat, BitVec.setWidth_eq]

/-- The 8-bit increment is zero after 0xFF alone (R120). -/
theorem isZero_add_one (v : Byte) : isZero (v + 1#8) = decide (v.toNat = 0xFF) := by
  unfold isZero
  rw [Bool.beq_eq_decide_eq, decide_eq_decide]
  bv_omega

/-- The 8-bit decrement is zero after 0x01 alone (R121). -/
theorem isZero_sub_one (v : Byte) : isZero (v - 1#8) = decide (v.toNat = 0x01) := by
  unfold isZero
  rw [Bool.beq_eq_decide_eq, decide_eq_decide]
  bv_omega

/-- F of `s` with Z, and under `lr35902` N and H, replaced (R120 to R123). -/
def State.incDecF (s : State) (z n h : Bool) : Byte :=
  if s.cfg.incDec8Flags = .lr35902 then s.withFlags z n h (s.flag .cy)
  else s.withFlags z (s.flag .n) (s.flag .h) (s.flag .cy)

theorem State.incDecF_congr {s t : State} (hf : t.f = s.f) (hcfg : t.cfg = s.cfg) (z n h : Bool) :
    t.incDecF z n h = s.incDecF z n h := by
  simp only [State.incDecF, hcfg, State.withFlags_congr hf, State.flag_congr hf]

/-- The flag updates of an increment or decrement, as one write of F. -/
theorem State.updateAll_incDecFlagUpdates (s : State) (z n h : Bool) :
    s.updateAll (incDecFlagUpdates s.cfg z n h) = { s with f := s.incDecF z n h } := by
  unfold incDecFlagUpdates State.incDecF
  split
  · refine congrArg (fun f => { s with f := f }) (State.f_eq_of_flags (t := ((s.setFlag .z z).setFlag .n n).setFlag .h h)
      ?_ ?_ ?_ ?_ ?_) <;> simp
  · refine congrArg (fun f => { s with f := f }) (State.f_eq_of_flags (t := s.setFlag .z z) ?_ ?_ ?_ ?_ ?_) <;> simp

/-- The F an increment writes past its opcode, where a store before it left F, PC and the parameters of `s`. -/
theorem State.incFlags_advance {s t : State} (hf : t.f = s.f) (hpc : t.pc = s.pc) (hcfg : t.cfg = s.cfg) (old : Byte) :
    (t.advance 1).incFlags old = { t with
      f := s.incDecF (decide (old.toNat = 0xFF)) false (decide (old.toNat % 16 = 0xF))
      pc := s.pc + 1#16 } := by
  rw [State.incFlags_eq_updateAll, incFlagUpdates, State.updateAll_incDecFlagUpdates, isZero_add_one,
    State.incDecF_congr (t := t.advance 1) hf hcfg, ← hpc, State.advance]

/-- The F a decrement writes past its opcode, where a store before it left F, PC and the parameters of `s`. -/
theorem State.decFlags_advance {s t : State} (hf : t.f = s.f) (hpc : t.pc = s.pc) (hcfg : t.cfg = s.cfg) (old : Byte) :
    (t.advance 1).decFlags old = { t with
      f := s.incDecF (decide (old.toNat = 0x01)) true (decide (old.toNat % 16 = 0x0))
      pc := s.pc + 1#16 } := by
  rw [State.decFlags_eq_updateAll, decFlagUpdates, State.updateAll_incDecFlagUpdates, isZero_sub_one,
    State.incDecF_congr (t := t.advance 1) hf hcfg, ← hpc, State.advance]

theorem State.writeReg_advance (s : State) (r : Reg8) (v : Byte) (n : Nat) :
    (s.advance n).writeReg r v = (s.writeReg r v).advance n := by
  cases r <;> rfl

theorem State.writePair_advance (s : State) (p : Pair) (v : Word) (n : Nat) :
    (s.advance n).writePair p v = (s.writePair p v).advance n := by
  cases p <;> rfl

theorem State.memWrite_advance (s : State) (a : Word) (v : Byte) (n : Nat) :
    (s.advance n).memWrite a v = (s.memWrite a v).advance n := by
  unfold State.memWrite
  split <;> rfl

/-- INC r writes r, F and PC (R120). -/
theorem State.incReg_advance (s : State) (r : Reg8) :
    (s.advance 1).incReg r = { s.writeReg r (s.readReg r + 1#8) with
      f := s.incDecF (decide ((s.readReg r).toNat = 0xFF)) false (decide ((s.readReg r).toNat % 16 = 0xF))
      pc := s.pc + 1#16 } := by
  rw [State.incReg, State.readReg_advance, State.writeReg_advance]
  exact State.incFlags_advance (State.writeReg_f ..) (State.writeReg_pc ..) (State.writeReg_cfg ..) _

/-- DEC r writes r, F and PC (R121). -/
theorem State.decReg_advance (s : State) (r : Reg8) :
    (s.advance 1).decReg r = { s.writeReg r (s.readReg r - 1#8) with
      f := s.incDecF (decide ((s.readReg r).toNat = 0x01)) true (decide ((s.readReg r).toNat % 16 = 0x0))
      pc := s.pc + 1#16 } := by
  rw [State.decReg, State.readReg_advance, State.writeReg_advance]
  exact State.decFlags_advance (State.writeReg_f ..) (State.writeReg_pc ..) (State.writeReg_cfg ..) _

/-- INC (HL) writes the byte at HL, F and PC (R122). -/
theorem State.incAtHL_advance (s : State) :
    (s.advance 1).incAtHL = { s.memWrite s.hl (s.memRead s.hl + 1#8) with
      f := s.incDecF (decide ((s.memRead s.hl).toNat = 0xFF)) false (decide ((s.memRead s.hl).toNat % 16 = 0xF))
      pc := s.pc + 1#16 } := by
  have hhl : (s.advance 1).hl = s.hl := rfl
  rw [State.incAtHL, hhl, State.memRead_advance, State.memWrite_advance]
  exact State.incFlags_advance (State.memWrite_f ..) (State.memWrite_pc ..) (State.memWrite_cfg ..) _

/-- DEC (HL) writes the byte at HL, F and PC (R123). -/
theorem State.decAtHL_advance (s : State) :
    (s.advance 1).decAtHL = { s.memWrite s.hl (s.memRead s.hl - 1#8) with
      f := s.incDecF (decide ((s.memRead s.hl).toNat = 0x01)) true (decide ((s.memRead s.hl).toNat % 16 = 0x0))
      pc := s.pc + 1#16 } := by
  have hhl : (s.advance 1).hl = s.hl := rfl
  rw [State.decAtHL, hhl, State.memRead_advance, State.memWrite_advance]
  exact State.decFlags_advance (State.memWrite_f ..) (State.memWrite_pc ..) (State.memWrite_cfg ..) _

/-- A byte written to memory, with F and PC, leaves every other field (R54, R56). -/
theorem sameOutsideMemory_memWrite (s : State) (a : Word) (v f : Byte) (pc : Word) :
    SameOutsideMemory { s with f := f, pc := pc } { s.memWrite a v with f := f, pc := pc } := by
  apply sameOutsideMemory_of <;> simp

/-- Settles O30: the byte is read before the store, and the store touches neither F nor PC. -/
theorem incAndDecOfTheByteAtHL : Obligations.IncAndDecOfTheByteAtHL := by
  unfold Obligations.IncAndDecOfTheByteAtHL
  refine ⟨rfl, rfl, fun s => ⟨?_, ?_⟩⟩
  · rw [ofNat_toNat_add_one]
    exact ⟨_, congrArg Host.Outcome.next s.incAtHL_advance, storesBytes_one rfl rfl, sameOutsideMemory_memWrite ..⟩
  · rw [ofInt_toNat_sub_one]
    exact ⟨_, congrArg Host.Outcome.next s.decAtHL_advance, storesBytes_one rfl rfl, sameOutsideMemory_memWrite ..⟩

/-- Settles O29: register by register the opcode, and the register and F written. -/
theorem incAndDecOfARegister : Obligations.IncAndDecOfARegister := by
  unfold Obligations.IncAndDecOfARegister
  intro r s
  have hinc : (Instr.incReg r).encode = [BitVec.ofNat 8 (0x04 + 8 * r.field)] := by cases r <;> rfl
  have hdec : (Instr.decReg r).encode = [BitVec.ofNat 8 (0x05 + 8 * r.field)] := by cases r <;> rfl
  rw [ofNat_toNat_add_one, ofInt_toNat_sub_one]
  exact ⟨hinc, hdec, (exec_incReg r s).trans (congrArg _ (s.incReg_advance r)),
    (exec_decReg r s).trans (congrArg _ (s.decReg_advance r))⟩

/-- Settles O31: pair by pair the opcode, and the pair written. -/
theorem incAndDecOfAPair : Obligations.IncAndDecOfAPair := by
  unfold Obligations.IncAndDecOfAPair
  intro p s
  have hinc : (Instr.incPair p).encode = [BitVec.ofNat 8 (0x03 + 16 * p.field)] := by cases p <;> rfl
  have hdec : (Instr.decPair p).encode = [BitVec.ofNat 8 (0x0B + 16 * p.field)] := by cases p <;> rfl
  have hwrite (v : Word) : (s.advance 1).writePair p v = { s.writePair p v with pc := s.pc + 1#16 } := by
    rw [State.writePair_advance, State.advance, State.writePair_pc]
  rw [exec_incPair, exec_decPair, State.incPair, State.decPair, State.readPair_advance, hwrite, hwrite, ofNat_toNat_add_one,
    ofInt_toNat_sub_one]
  exact ⟨hinc, hdec, rfl, rfl⟩

/-! ### Increments in a row -/

theorem execTimes_succ {i : Instr} {k : Nat} {s t : State} (h : execTimes i k s = .next t) :
    execTimes i (k + 1) s = exec i t := by
  simp only [execTimes, h]

@[simp] theorem State.readReg_incFlags (s : State) (old : Byte) (r : Reg8) : (s.incFlags old).readReg r = s.readReg r := by
  cases r <;> simp [State.readReg]

@[simp] theorem State.flag_z_incFlags (s : State) (old : Byte) : (s.incFlags old).flag .z = isZero (old + 1#8) := by
  unfold State.incFlags
  split <;> simp

/-- INC r adds 1 to r, and Z tells whether that is zero (R120). -/
theorem exec_incReg_result (r : Reg8) (s : State) :
    ∃ t : State, exec (Instr.incReg r) s = .next t ∧ t.readReg r = s.readReg r + 1#8 ∧
      t.flag .z = isZero (s.readReg r + 1#8) := by
  refine ⟨_, exec_incReg r s, ?_, ?_⟩
  · simp [State.incReg, State.readReg_writeReg]
  · simp [State.incReg]

/-- After `k + 1` increments r has grown by `k + 1`, and Z tells whether it came to zero. -/
theorem execTimes_incReg (r : Reg8) (s : State) (k : Nat) :
    ∃ t : State, execTimes (Instr.incReg r) (k + 1) s = .next t ∧ t.readReg r = s.readReg r + BitVec.ofNat 8 (k + 1) ∧
      t.flag .z = isZero (s.readReg r + BitVec.ofNat 8 (k + 1)) := by
  induction k with
  | zero => exact exec_incReg_result r s
  | succ k ih =>
    obtain ⟨t, hrun, hreg, -⟩ := ih
    obtain ⟨u, hexec, hreg', hz⟩ := exec_incReg_result r t
    have hsum : t.readReg r + 1#8 = s.readReg r + BitVec.ofNat 8 (k + 1 + 1) := by
      rw [hreg, BitVec.add_assoc, ← BitVec.ofNat_add]
    exact ⟨u, (execTimes_succ hrun).trans hexec, hreg'.trans hsum, hz.trans (congrArg isZero hsum)⟩

/-- Of the first 256 increments of a byte, the one that makes it 256 and no other gives zero. -/
theorem execTimes_incReg_z (r : Reg8) (s : State) {k : Nat} (hpos : 1 ≤ k) (hle : k ≤ 256) :
    (∃ t : State, execTimes (Instr.incReg r) k s = .next t ∧ t.flag .z = true) ↔ (s.readReg r).toNat + k = 256 := by
  obtain ⟨j, rfl⟩ := Nat.exists_eq_add_of_le' hpos
  obtain ⟨t, hrun, -, hz⟩ := execTimes_incReg r s j
  have hzero : t.flag .z = true ↔ (s.readReg r).toNat + (j + 1) = 256 := by
    rw [hz, isZero, beq_iff_eq]
    bv_omega
  rw [← hzero]
  constructor
  · rintro ⟨u, hrun', hu⟩
    obtain rfl : t = u := Host.Outcome.next.inj (hrun.symm.trans hrun')
    exact hu
  · exact fun ht => ⟨t, hrun, ht⟩

/-- Settles O56: 256 is zero mod 2^8, and Z is set when the register and the count make 256. -/
theorem incTwoHundredFiftySixTimes : Obligations.IncTwoHundredFiftySixTimes := by
  unfold Obligations.IncTwoHundredFiftySixTimes
  intro r s
  have hlt := (s.readReg r).isLt
  refine ⟨?_, 256 - (s.readReg r).toNat, ⟨by omega, by omega, ?_⟩, fun j hpos hle hj => ?_⟩
  · obtain ⟨t, hrun, hreg, -⟩ := execTimes_incReg r s 255
    exact ⟨t, hrun, hreg.trans (BitVec.add_zero _)⟩
  · exact (execTimes_incReg_z r s (by omega) (by omega)).mpr (by omega)
  · have hsum := (execTimes_incReg_z r s hpos hle).mp hj
    omega

end Sys2Proof.Machine

namespace Sys2Proof

/-! ### The opcodes of the ALU operations (R130) -/

theorem Instr.encode_alu_reg (op : AluOp) (r : Reg8) :
    (Instr.alu op (.reg r)).encode = [BitVec.ofNat 8 (0x80 + 8 * op.field + r.field)] := by
  cases op <;> cases r <;> rfl

theorem Instr.encode_alu_atHL (op : AluOp) : (Instr.alu op .atHL).encode = [BitVec.ofNat 8 (0x86 + 8 * op.field)] := by
  cases op <;> rfl

theorem Instr.encode_alu_imm (op : AluOp) (v : Byte) :
    (Instr.alu op (.imm v)).encode = [BitVec.ofNat 8 (0xC6 + 8 * op.field), v] := by
  cases op <;> rfl

end Sys2Proof

namespace Sys2Proof.Machine

/-! ### The ALU routines as one write of A and F

The routines of R130 to R145 write their flags one at a time. Each is said again as one record update, in the arithmetic of the spec's
pseudocode; the instructions' results are these at the operand's value, with PC moved past the instruction. -/

/-- A state that differs from `s` in F alone is one write of the four flags over bits 3 to 0. -/
theorem State.eq_of_flags {s t : State} {z n h cy : Bool} (hframe : { t with f := s.f } = s) (hz : t.flag .z = z)
    (hn : t.flag .n = n) (hh : t.flag .h = h) (hcy : t.flag .cy = cy) (hlow : t.f &&& 0x0F#8 = s.f &&& 0x0F#8) :
    t = { s with f := s.withFlags z n h cy } := by
  rw [← State.f_eq_of_flags hz hn hh hcy hlow, ← hframe]

theorem State.setFlags_eq (s : State) (z n h cy : Bool) :
    s.setFlags z n h cy = { s with f := s.withFlags z n h cy } := by
  apply State.eq_of_flags (t := s.setFlags z n h cy) rfl <;> simp

theorem isZero_eq_decide (v : Byte) : isZero v = decide (v.toNat = 0) := by
  rw [isZero, Bool.beq_eq_decide_eq, decide_eq_decide, BitVec.toNat_eq]
  rfl

theorem isZero_ofNat (n : Nat) : isZero (BitVec.ofNat 8 n) = decide (n % 256 = 0) := by
  rw [isZero_eq_decide, BitVec.toNat_ofNat]

theorem isZero_ofInt (i : Int) : isZero (BitVec.ofInt 8 i) = decide (i % 256 = 0) := by
  rw [isZero_eq_decide, decide_eq_decide, BitVec.toNat_ofInt]
  omega

theorem ofInt_sub {w : Nat} (i j : Int) : BitVec.ofInt w (i - j) = BitVec.ofInt w i - BitVec.ofInt w j := by
  rw [sub_eq_add_neg, sub_eq_add_neg, BitVec.ofInt_add, BitVec.ofInt_neg]

theorem ofInt_toNat {w : Nat} (x : BitVec w) : BitVec.ofInt w x.toNat = x := by
  rw [BitVec.ofInt_natCast, BitVec.ofNat_toNat, BitVec.setWidth_eq]

/-- The result of a subtraction is A less the unreduced operand, mod 2^8 (R133, R134). -/
theorem subResult_eq_ofInt (a v : Byte) (cin : Bool) :
    subResult a v cin = BitVec.ofInt 8 (a.toNat - (v.toNat + cin.toNat)) := by
  rw [ofInt_sub, ofInt_toNat, ← Nat.cast_add, BitVec.ofInt_natCast, subResult]

/-- A less an operand is zero exactly where they are equal (R138). -/
theorem isZero_subResult_false (a v : Byte) : isZero (subResult a v false) = decide (a = v) := by
  have hsub : subResult a v false = a - v := by simp [subResult]
  rw [hsub, isZero, Bool.beq_eq_decide_eq, decide_eq_decide]
  exact sub_eq_zero

theorem State.aluAdd_eq (s : State) (v : Byte) (cin : Bool) :
    s.aluAdd v cin = { s with
      a := BitVec.ofNat 8 (s.a.toNat + v.toNat + cin.toNat)
      f := s.withFlags (decide ((s.a.toNat + v.toNat + cin.toNat) % 256 = 0)) false
        (decide (s.a.toNat % 16 + v.toNat % 16 + cin.toNat > 0xF)) (decide (s.a.toNat + v.toNat + cin.toNat > 0xFF)) } := by
  rw [← isZero_ofNat]
  exact State.setFlags_eq ..

theorem State.aluSub_eq (s : State) (v : Byte) (cin : Bool) :
    s.aluSub v cin = { s with
      a := BitVec.ofInt 8 (s.a.toNat - (v.toNat + cin.toNat))
      f := s.withFlags (decide ((s.a.toNat - (v.toNat + cin.toNat) : Int) % 256 = 0)) true
        (decide (s.a.toNat % 16 < v.toNat % 16 + cin.toNat)) (decide (s.a.toNat < v.toNat + cin.toNat)) } := by
  rw [← isZero_ofInt, ← subResult_eq_ofInt, State.aluSub, State.subFlags, State.setFlags_eq]
  rfl

theorem State.aluLogic_eq (s : State) (res : Byte) (h : Bool) :
    s.aluLogic res h = { s with a := res, f := s.withFlags (decide (res.toNat = 0)) false h false } := by
  rw [← isZero_eq_decide]
  exact State.setFlags_eq ..

theorem State.subFlags_false_eq (s : State) (v : Byte) :
    s.subFlags v false = { s with
      f := s.withFlags (decide (s.a = v)) true (decide (s.a.toNat % 16 < v.toNat % 16)) (decide (s.a.toNat < v.toNat)) } := by
  rw [← isZero_subResult_false]
  exact State.setFlags_eq ..

theorem State.offsetFlags_eq (s : State) (sp : Word) (e : Byte) :
    s.offsetFlags sp e = { s with
      f := s.withFlags false false (decide (sp.toNat % 16 + e.toNat % 16 > 0xF))
        (decide (sp.toNat % 256 + e.toNat > 0xFF)) } := by
  have hnibble : (loByte sp).toNat % 16 = sp.toNat % 16 := by rw [toNat_loByte]; omega
  rw [State.offsetFlags, State.setFlags_eq, halfCarry, carry, hnibble, toNat_loByte]
  rfl

theorem State.alu8_advance (s : State) (op : AluOp) (v : Byte) (n : Nat) :
    (s.advance n).alu8 op v = (s.alu8 op v).advance n := by
  cases op <;> rfl

/-- Every operand form runs the one routine on its operand's value, read before A is written, and PC moves past the form (R130). -/
theorem exec_alu_eq (op : AluOp) (src : Src8) (s : State) :
    exec (Instr.alu op src) s = .next ((s.alu8 op (s.readSrc src)).advance (Instr.alu op src).length) := by
  rw [exec_alu, State.alu, State.readSrc_advance, State.alu8_advance]

/-- Settles O32: the three encodings, and every form runs the same routine on the operand. -/
theorem aluOperandForms : Obligations.AluOperandForms := by
  unfold Obligations.AluOperandForms
  intro op src s
  refine ⟨?_, ?_, _, _, exec_alu_eq .., exec_alu_eq .., rfl, ?_, ?_, ?_⟩
  · cases src with
    | reg r => exact Instr.encode_alu_reg op r
    | atHL => exact Instr.encode_alu_atHL op
    | imm v => exact Instr.encode_alu_imm op v
  · cases src <;> rfl
  · rw [State.advance_pc, State.alu8_pc, Instr.length]
  · simp [State.hl]
  · simp

/-- Settles O33: `aluAdd` without a carry-in and with CY. -/
theorem addAndAdcResults : Obligations.AddAndAdcResults := by
  unfold Obligations.AddAndAdcResults
  refine ⟨Instr.encode_alu_reg .add, Instr.encode_alu_atHL .add, Instr.encode_alu_imm .add, Instr.encode_alu_reg .adc,
    Instr.encode_alu_atHL .adc, Instr.encode_alu_imm .adc, fun src s => ⟨?_, ?_⟩⟩
  all_goals
    rw [exec_alu_eq, State.alu8, State.aluAdd_eq]
    rfl

/-- Settles O34: `aluSub` without a carry-in and with CY. -/
theorem subAndSbcResults : Obligations.SubAndSbcResults := by
  unfold Obligations.SubAndSbcResults
  refine ⟨Instr.encode_alu_reg .sub, Instr.encode_alu_atHL .sub, Instr.encode_alu_imm .sub, Instr.encode_alu_reg .sbc,
    Instr.encode_alu_atHL .sbc, Instr.encode_alu_imm .sbc, fun src s => ⟨?_, ?_⟩⟩
  all_goals
    rw [exec_alu_eq, State.alu8, State.aluSub_eq]
    rfl

/-- Settles O35: `aluLogic` of the three bitwise results. -/
theorem andXorOrResults : Obligations.AndXorOrResults := by
  unfold Obligations.AndXorOrResults
  refine ⟨Instr.encode_alu_reg .and, Instr.encode_alu_atHL .and, Instr.encode_alu_imm .and, Instr.encode_alu_reg .xor,
    Instr.encode_alu_atHL .xor, Instr.encode_alu_imm .xor, Instr.encode_alu_reg .or, Instr.encode_alu_atHL .or,
    Instr.encode_alu_imm .or, fun src s => ⟨?_, ?_, ?_⟩⟩
  all_goals
    rw [exec_alu_eq, State.alu8, State.aluLogic_eq]
    rfl

/-- Settles O36: CP is the flag step of SUB, and a difference is zero where both are equal. -/
theorem compareResult : Obligations.CompareResult := by
  unfold Obligations.CompareResult
  refine ⟨Instr.encode_alu_reg .cp, Instr.encode_alu_atHL .cp, Instr.encode_alu_imm .cp, fun src s =>
    ⟨?_, _, _, exec_alu_eq .., exec_alu_eq .., rfl⟩⟩
  rw [exec_alu_eq, State.alu8, State.subFlags_false_eq]
  rfl

/-! ### The flags kept -/

@[simp] theorem State.flag_with_a (s : State) (v : Byte) (fl : Flag) : ({ s with a := v } : State).flag fl = s.flag fl := rfl

@[simp] theorem State.flag_writeHL (s : State) (v : Word) (fl : Flag) : (s.writeHL v).flag fl = s.flag fl := rfl

/-- CPL keeps Z and CY (R140). -/
theorem State.cpl_eq (s : State) :
    s.cpl = { s with a := ~~~s.a, f := s.withFlags (s.flag .z) true true (s.flag .cy) } := by
  apply State.eq_of_flags (s := { s with a := ~~~s.a }) (t := s.cpl) rfl <;> simp [State.cpl]

/-- SCF keeps Z (R141). -/
theorem State.scf_eq (s : State) : s.scf = { s with f := s.withFlags (s.flag .z) false false true } := by
  apply State.eq_of_flags (t := s.scf) rfl <;> simp [State.scf]

/-- CCF keeps Z (R142). -/
theorem State.ccf_eq (s : State) : s.ccf = { s with f := s.withFlags (s.flag .z) false false (!s.flag .cy) } := by
  apply State.eq_of_flags (t := s.ccf) rfl <;> simp [State.ccf]

/-- ADD HL,rr keeps Z (R143). -/
theorem State.addHL_eq (s : State) (p : Pair) :
    s.addHL p = { s.writeHL (s.hl + s.readPair p) with
      f := s.withFlags (s.flag .z) false (halfCarry16 s.hl (s.readPair p)) (carry16 s.hl (s.readPair p)) } := by
  apply State.eq_of_flags (s := s.writeHL (s.hl + s.readPair p)) (t := s.addHL p) rfl <;> simp [State.addHL]

/-- Settles O37: each equation past the opcode; the complement of A is 0xFF less A. -/
theorem cplScfCcfResults : Obligations.CplScfCcfResults := by
  unfold Obligations.CplScfCcfResults
  refine ⟨rfl, rfl, rfl, fun s => ⟨?_, congrArg Host.Outcome.next (s.advance 1).scf_eq,
    congrArg Host.Outcome.next (s.advance 1).ccf_eq⟩⟩
  have hnot : BitVec.ofNat 8 (0xFF - s.a.toNat) = ~~~s.a := by bv_omega
  rw [hnot]
  exact congrArg Host.Outcome.next (s.advance 1).cpl_eq

/-- Settles O38: pair by pair the opcode, then HL and the three flags written. -/
theorem addHLResult : Obligations.AddHLResult := by
  unfold Obligations.AddHLResult
  intro p s
  have hencode : (Instr.addHL p).encode = [BitVec.ofNat 8 (0x09 + 16 * p.field)] := by cases p <;> rfl
  refine ⟨hencode, ?_⟩
  rw [exec_addHL, State.addHL_eq, State.readPair_advance]
  rfl

/-- Settles O39: the signed offset added to SP, and the flags of the low byte. -/
theorem addSPAndLdHLSPResults : Obligations.AddSPAndLdHLSPResults := by
  unfold Obligations.AddSPAndLdHLSPResults
  intro e s
  rw [ofInt_add_toInt]
  exact ⟨rfl, rfl, congrArg Host.Outcome.next (State.offsetFlags_eq ..), congrArg Host.Outcome.next (State.offsetFlags_eq ..)⟩

/-! ### DAA -/

theorem State.daa_of_nop {s : State} (h : s.cfg.daa = .nop) : s.daa = s.advance 1 := by
  simp only [State.daa, h]

theorem State.daa_of_fault {s : State} (h : s.cfg.daa = .fault) : s.daa = s.raise (.unimplementedOpcode 0x27#8) := by
  simp only [State.daa, h]

theorem State.daa_of_lr35902 {s : State} (h : s.cfg.daa = .lr35902) : s.daa = (s.advance 1).decimalAdjust := by
  simp only [State.daa, h]

/-- The adjust writes A, Z from it, H cleared and CY; N is kept (R145). -/
theorem State.decimalAdjust_eq (s : State) :
    s.decimalAdjust = { s with
      a := daaResult s.a (s.flag .n) (s.flag .h) (s.flag .cy)
      f := s.withFlags (isZero (daaResult s.a (s.flag .n) (s.flag .h) (s.flag .cy))) (s.flag .n) false
        (daaHigh s.a (s.flag .n) (s.flag .cy)) } := by
  apply State.eq_of_flags (s := { s with a := daaResult s.a (s.flag .n) (s.flag .h) (s.flag .cy) })
    (t := s.decimalAdjust) rfl <;> simp [State.decimalAdjust]

/-- What DAA leaves of A after an addition, unreduced (R145). -/
def daaSum (a : Byte) (h cy : Bool) : Nat :=
  a.toNat + (if h = true ∨ a.toNat % 16 > 0x9 then 0x06 else 0) + (if cy = true ∨ a.toNat > 0x99 then 0x60 else 0)

/-- What DAA leaves of A after a subtraction, unreduced (R145). -/
def daaDifference (a : Byte) (h cy : Bool) : Int :=
  a.toNat - (if h = true then 0x06 else 0) - (if cy = true then 0x60 else 0)

/-- Both adjustments are added to A (R145). -/
theorem daaResult_false (a : Byte) (h cy : Bool) : daaResult a false h cy = BitVec.ofNat 8 (daaSum a h cy) := by
  simp [daaResult, daaAdjust, daaLow, daaHigh, daaSum, BitVec.ofNat_add, apply_ite (BitVec.ofNat 8), add_assoc]

/-- Both adjustments are taken off A (R145). -/
theorem daaResult_true (a : Byte) (h cy : Bool) : daaResult a true h cy = BitVec.ofInt 8 (daaDifference a h cy) := by
  simp [daaResult, daaAdjust, daaLow, daaHigh, daaDifference, ofInt_sub, BitVec.ofInt_add,
    apply_ite (BitVec.ofInt 8), sub_sub]

/-- The adjust after an addition sets CY where the high digit was adjusted (R145). -/
theorem State.decimalAdjust_of_add {s : State} (hn : s.flag .n = false) :
    s.decimalAdjust = { s with
      a := BitVec.ofNat 8 (daaSum s.a (s.flag .h) (s.flag .cy))
      f := s.withFlags (decide (daaSum s.a (s.flag .h) (s.flag .cy) % 256 = 0)) false false
        (s.flag .cy || decide (s.a.toNat > 0x99)) } := by
  rw [State.decimalAdjust_eq, hn, daaResult_false, isZero_ofNat]
  rfl

/-- The adjust after a subtraction keeps CY (R145). -/
theorem State.decimalAdjust_of_sub {s : State} (hn : s.flag .n = true) :
    s.decimalAdjust = { s with
      a := BitVec.ofInt 8 (daaDifference s.a (s.flag .h) (s.flag .cy))
      f := s.withFlags (decide (daaDifference s.a (s.flag .h) (s.flag .cy) % 256 = 0)) true false (s.flag .cy) } := by
  have hhigh : daaHigh s.a true (s.flag .cy) = s.flag .cy := Bool.or_false _
  rw [State.decimalAdjust_eq, hn, daaResult_true, isZero_ofInt, hhigh]

end Sys2Proof.Machine

namespace Sys2Proof

/-- Settles O40: the three policies, and the adjust after an addition and after a subtraction. -/
theorem daaResult : Obligations.DaaResult := by
  unfold Obligations.DaaResult
  refine ⟨rfl, fun s => ⟨fun hnop => ?_, fun hfault => ?_, fun hcfg hn => ?_, fun hcfg hn => ?_⟩⟩
  · exact congrArg Host.Outcome.next (Machine.State.daa_of_nop hnop)
  · exact congrArg Host.Outcome.next (Machine.State.daa_of_fault hfault)
  · exact congrArg Host.Outcome.next
      ((Machine.State.daa_of_lr35902 hcfg).trans (Machine.State.decimalAdjust_of_add (s := s.advance 1) hn))
  · exact congrArg Host.Outcome.next
      ((Machine.State.daa_of_lr35902 hcfg).trans (Machine.State.decimalAdjust_of_sub (s := s.advance 1) hn))

end Sys2Proof

namespace Sys2Proof

/-! ### The opcodes of the register loads (R160, R161, R163) -/

theorem Instr.encode_ldReg_reg (r x : Reg8) :
    (Instr.ldReg r (.reg x)).encode = [BitVec.ofNat 8 (0x40 + 8 * r.field + x.field)] := by
  cases r <;> cases x <;> rfl

theorem Instr.encode_ldReg_atHL (r : Reg8) : (Instr.ldReg r .atHL).encode = [BitVec.ofNat 8 (0x46 + 8 * r.field)] := by
  cases r <;> rfl

theorem Instr.encode_ldReg_imm (r : Reg8) (v : Byte) :
    (Instr.ldReg r (.imm v)).encode = [BitVec.ofNat 8 (0x06 + 8 * r.field), v] := by
  cases r <;> rfl

end Sys2Proof

namespace Sys2Proof.Machine

/-! ### Stores leave every field but memory and sink -/

theorem SameOutsideMemory.trans {s t u : State} (hst : SameOutsideMemory s t) (htu : SameOutsideMemory t u) :
    SameOutsideMemory s u := by
  unfold SameOutsideMemory at *
  calc { u with mem := s.mem, sink := s.sink }
      = { ({ u with mem := t.mem, sink := t.sink } : State) with mem := s.mem, sink := s.sink } := rfl
    _ = { t with mem := s.mem, sink := s.sink } := by rw [htu]
    _ = s := hst

theorem State.memWrite_sameOutsideMemory (s : State) (a : Word) (v : Byte) : SameOutsideMemory s (s.memWrite a v) := by
  unfold State.memWrite
  split <;> rfl

theorem State.push16_sameOutsideMemory (s : State) (v : Word) :
    SameOutsideMemory { s with sp := s.sp - 2#16 } (s.push16 v) := by
  apply sameOutsideMemory_of <;> simp

/-- The update of HL reads and writes neither memory nor sink (R169 to R172). -/
theorem SameOutsideMemory.accUpdate {s t : State} (h : SameOutsideMemory s t) (m : AccMem) :
    SameOutsideMemory (s.accUpdate m) (t.accUpdate m) := by
  unfold SameOutsideMemory at *
  calc { t.accUpdate m with mem := (s.accUpdate m).mem, sink := (s.accUpdate m).sink }
      = ({ t with mem := s.mem, sink := s.sink } : State).accUpdate m := by cases m <;> rfl
    _ = s.accUpdate m := by rw [h]

/-! ### LD (HL),r and LD (HL),d8 -/

/-- A store at HL past an opcode of `n` bytes (R162, R164). -/
theorem State.storeHL_advance (s : State) (src : Src8) (n : Nat) :
    StoresBytes s ((s.advance n).storeHL src) [(s.hl, s.readSrc src)] ∧
      SameOutsideMemory (s.advance n) ((s.advance n).storeHL src) := by
  have hstore : (s.advance n).storeHL src = (s.memWrite s.hl (s.readSrc src)).advance n := by
    rw [← State.memWrite_advance, ← State.readSrc_advance s n]
    rfl
  refine ⟨?_, State.memWrite_sameOutsideMemory ..⟩
  rw [hstore]
  exact storesBytes_one rfl rfl

/-- Settles O42: both forms are a store at HL past the opcode. -/
theorem storesAtHL : Obligations.StoresAtHL := by
  unfold Obligations.StoresAtHL
  have hencode (r : Reg8) : (Instr.stHL r).encode = [BitVec.ofNat 8 (0x70 + r.field)] := by cases r <;> rfl
  exact ⟨fun r s => ⟨hencode r, _, exec_stHL r s, s.storeHL_advance (.reg r) 1⟩,
    fun v s => ⟨rfl, _, rfl, s.storeHL_advance (.imm v) 2⟩⟩

/-! ### The accumulator moves -/

/-- A high-page address as a sum (R88). -/
theorem ofNat_eq_highPage (n : Byte) : BitVec.ofNat 16 (0xFF00 + n.toNat) = highPage n := by
  apply BitVec.eq_of_toNat_eq
  rw [highPage, toNat_joinBytes, BitVec.toNat_ofNat]
  have hlt := n.isLt
  have hpage : (0xFF#8).toNat = 0xFF := rfl
  omega

/-- What every accumulator store does (R165, R166, R169, R170, R173, R175, R177). -/
theorem exec_storeA_result (m : AccMem) (s : State) :
    ∃ t : State, exec (Instr.storeA m) s = .next t ∧ StoresBytes s t [(s.accAddress m, s.a)] ∧
      SameOutsideMemory ((s.advance (Instr.storeA m).length).accUpdate m) t := by
  have hwrite (n : Nat) : (s.advance n).memWrite ((s.advance n).accAddress m) (s.advance n).a =
      (s.memWrite (s.accAddress m) s.a).advance n := by
    rw [State.accAddress_advance, State.advance_a, State.memWrite_advance]
  refine ⟨_, exec_storeA m s, storesBytes_one ?_ ?_, (State.memWrite_sameOutsideMemory ..).accUpdate m⟩
  · rw [State.storeA, State.accUpdate_mem, hwrite, State.advance_mem]
  · rw [State.storeA, State.accUpdate_sink, hwrite, State.advance_sink]

/-- What every accumulator load does (R167, R168, R171, R172, R174, R176, R178). -/
theorem exec_loadA_eq (m : AccMem) (s : State) :
    exec (Instr.loadA m) s =
      .next (({ s with a := s.memRead (s.accAddress m) }.accUpdate m).advance (Instr.loadA m).length) := by
  cases m <;> rfl

/-- Settles O43: each form at its own address, HL moved by 1 mod 2^16. -/
theorem accumulatorStores : Obligations.AccumulatorStores := by
  unfold Obligations.AccumulatorStores
  intro n a s
  rw [ofNat_eq_highPage, ofNat_eq_highPage, ofNat_toNat_add_one, ofInt_toNat_sub_one]
  exact ⟨⟨rfl, exec_storeA_result .atBC s⟩, ⟨rfl, exec_storeA_result .atDE s⟩, ⟨rfl, exec_storeA_result .atHLInc s⟩,
    ⟨rfl, exec_storeA_result .atHLDec s⟩, ⟨rfl, exec_storeA_result (.atHigh n) s⟩, ⟨rfl, exec_storeA_result .atHighC s⟩,
    ⟨rfl, exec_storeA_result (.atAbs a) s⟩⟩

/-- Settles O44: each form at its own address, HL moved by 1 mod 2^16. -/
theorem accumulatorLoads : Obligations.AccumulatorLoads := by
  unfold Obligations.AccumulatorLoads
  intro n a s
  rw [ofNat_eq_highPage, ofNat_eq_highPage, ofNat_toNat_add_one, ofInt_toNat_sub_one]
  exact ⟨⟨rfl, exec_loadA_eq .atBC s⟩, ⟨rfl, exec_loadA_eq .atDE s⟩, ⟨rfl, exec_loadA_eq .atHLInc s⟩,
    ⟨rfl, exec_loadA_eq .atHLDec s⟩, ⟨rfl, exec_loadA_eq (.atHigh n) s⟩, ⟨rfl, exec_loadA_eq .atHighC s⟩,
    ⟨rfl, exec_loadA_eq (.atAbs a) s⟩⟩

/-! ### Register and 16-bit moves -/

/-- Every form writes its operand, read before the write, and moves PC past its bytes (R160, R161, R163). -/
theorem exec_ldReg_eq {r : Reg8} {src : Src8} {bytes : List Byte} (h : (Instr.ldReg r src).encode = bytes) (s : State) :
    exec (Instr.ldReg r src) s = .next { s.writeReg r (s.readSrc src) with pc := s.pc + BitVec.ofNat 16 bytes.length } := by
  rw [exec_ldReg, State.loadReg, State.readSrc_advance, State.writeReg_advance, State.advance, State.writeReg_pc, Instr.length, h]

/-- Settles O41: the three operand forms of one load. -/
theorem loadsIntoARegister : Obligations.LoadsIntoARegister := by
  unfold Obligations.LoadsIntoARegister
  intro r s
  exact ⟨fun x => ⟨Instr.encode_ldReg_reg r x, exec_ldReg_eq (Instr.encode_ldReg_reg r x) s⟩,
    Instr.encode_ldReg_atHL r, exec_ldReg_eq (Instr.encode_ldReg_atHL r) s,
    fun v => ⟨Instr.encode_ldReg_imm r v, exec_ldReg_eq (Instr.encode_ldReg_imm r v) s⟩⟩

/-- Settles O45: pair by pair the opcode, then the pair written. -/
theorem sixteenBitLoads : Obligations.SixteenBitLoads := by
  unfold Obligations.SixteenBitLoads
  refine ⟨fun p v s => ⟨?_, ?_⟩, rfl, fun _ => rfl⟩
  · cases p <;> rfl
  · rw [exec_ldPair, State.writePair_advance, State.advance, State.writePair_pc]

/-- Settles O46: two stores, at an address and the next one mod 2^16. -/
theorem storeOfSP : Obligations.StoreOfSP := by
  unfold Obligations.StoreOfSP
  intro a s
  have hne : a ≠ a + 1#16 := by bv_omega
  have hstore : (s.advance 3).storeSP a =
      ((s.memWrite a (loByte s.sp)).memWrite (a + 1#16) (hiByte s.sp)).advance 3 := by
    rw [← State.memWrite_advance, ← State.memWrite_advance]
    rfl
  refine ⟨rfl, (s.advance 3).storeSP a, rfl, ?_,
    (State.memWrite_sameOutsideMemory ..).trans (State.memWrite_sameOutsideMemory ..)⟩
  rw [hstore]
  exact storesBytes_two hne rfl rfl

/-! ### PUSH and POP -/

/-- What every PUSH does (R185). -/
theorem exec_push_result (q : StackPair) (s : State) :
    ∃ t : State, exec (Instr.push q) s = .next t ∧
      StoresBytes s t [(s.sp - 1#16, hiByte (s.readStackPair q)), (s.sp - 2#16, loByte (s.readStackPair q))] ∧
      SameOutsideMemory { s with sp := s.sp - 2#16, pc := s.pc + 1#16 } t := by
  refine ⟨_, exec_push q s, ?_, State.push16_sameOutsideMemory (s.advance 1) _⟩
  rw [State.push, State.readStackPair_advance]
  exact storesBytes_push16 (u := s.advance 1) _ rfl rfl rfl rfl rfl

/-- What every PUSH stores, by the halves of its pair (R185). -/
theorem exec_push_halves {q : StackPair} {s : State} {hi lo : Byte} (h : s.readStackPair q = joinBytes hi lo) :
    ∃ t : State, exec (Instr.push q) s = .next t ∧ StoresBytes s t [(s.sp - 1#16, hi), (s.sp - 2#16, lo)] ∧
      SameOutsideMemory { s with sp := s.sp - 2#16, pc := s.pc + 1#16 } t := by
  have hpush := exec_push_result q s
  rwa [h, hiByte_joinBytes, loByte_joinBytes] at hpush

/-- Settles O47: the pair taken apart into its halves. -/
theorem pushResult : Obligations.PushResult := by
  unfold Obligations.PushResult
  intro s
  exact ⟨⟨rfl, exec_push_halves (q := .bc) rfl⟩, ⟨rfl, exec_push_halves (q := .de) rfl⟩,
    ⟨rfl, exec_push_halves (q := .hl) rfl⟩, ⟨rfl, exec_push_halves (q := .af) rfl⟩⟩

theorem State.writeBC_joinBytes (s : State) (hi lo : Byte) : s.writeBC (joinBytes hi lo) = { s with b := hi, c := lo } := by
  simp [State.writeBC]

theorem State.writeDE_joinBytes (s : State) (hi lo : Byte) : s.writeDE (joinBytes hi lo) = { s with d := hi, e := lo } := by
  simp [State.writeDE]

theorem State.writeHL_joinBytes (s : State) (hi lo : Byte) : s.writeHL (joinBytes hi lo) = { s with h := hi, l := lo } := by
  simp [State.writeHL]

/-- Bits 7 to 4 of a byte, as a number (R27). -/
theorem and_high_nibble (v : Byte) : v &&& 0xF0#8 = BitVec.ofNat 8 (v.toNat / 16 * 0x10) := by
  revert v; decide

theorem State.writeAF_joinBytes (s : State) (hi lo : Byte) :
    s.writeAF (joinBytes hi lo) = { s with a := hi, f := BitVec.ofNat 8 (lo.toNat / 16 * 0x10) } := by
  simp [State.writeAF, State.writeF, and_high_nibble]

/-- Settles O48: the value popped is two bytes joined, and writing a pair takes them apart again. -/
theorem popResult : Obligations.PopResult := by
  unfold Obligations.PopResult
  exact ⟨rfl, rfl, rfl, rfl, fun s =>
    ⟨congrArg Host.Outcome.next (State.writeBC_joinBytes (s.advance 1).popped _ _),
      congrArg Host.Outcome.next (State.writeDE_joinBytes (s.advance 1).popped _ _),
      congrArg Host.Outcome.next (State.writeHL_joinBytes (s.advance 1).popped _ _),
      congrArg Host.Outcome.next (State.writeAF_joinBytes (s.advance 1).popped _ _)⟩⟩

/-- What was pushed is popped, where neither byte went to the sink (R183, R184). -/
theorem State.popValue_push16 {s : State} (v : Word) (hhi : s.sp - 1#16 ≠ sinkAddress) (hlo : s.sp - 2#16 ≠ sinkAddress) :
    (s.push16 v).popValue = v := by
  have hnext : s.sp - 2#16 + 1#16 = s.sp - 1#16 := by bv_omega
  have hne : s.sp - 1#16 ≠ s.sp - 2#16 := by bv_omega
  rw [State.popValue, State.memRead16, State.push16_sp, hnext, State.memRead_push16, State.memRead_push16]
  simp [hhi, hlo, hne]

theorem joinBytes_and_high_nibble (v : Word) : joinBytes (hiByte v) (loByte v &&& 0xF0#8) = v &&& 0xFFF0#16 := by
  have hhi : hiByte v &&& 0xFF#8 = hiByte v := BitVec.and_allOnes
  calc joinBytes (hiByte v) (loByte v &&& 0xF0#8)
      = joinBytes (hiByte v &&& 0xFF#8) (loByte v &&& 0xF0#8) := by rw [hhi]
    _ = joinBytes (hiByte v) (loByte v) &&& joinBytes 0xFF#8 0xF0#8 := BitVec.and_append.symm
    _ = v &&& 0xFFF0#16 := by rw [joinBytes_hi_lo]; rfl

/-- A pair holds what was written to it, bits 3 to 0 of F apart (R23, R27). -/
theorem State.readStackPair_writeStackPair (s : State) (p : StackPair) (v : Word) :
    (s.writeStackPair p v).readStackPair p = if p = .af then v &&& 0xFFF0#16 else v := by
  cases p with
  | bc => exact joinBytes_hi_lo v
  | de => exact joinBytes_hi_lo v
  | hl => exact joinBytes_hi_lo v
  | af => exact joinBytes_and_high_nibble v

/-- Settles O49: SP goes down and up by 2, and neither byte went to the sink. -/
theorem pushThenPopRoundTrip : Obligations.PushThenPopRoundTrip := by
  unfold Obligations.PushThenPopRoundTrip
  intro q p s hhi hlo
  have hhi' : s.sp - 1#16 ≠ sinkAddress := by unfold sinkAddress; bv_omega
  have hlo' : s.sp - 2#16 ≠ sinkAddress := by unfold sinkAddress; bv_omega
  have hvalue : (((s.advance 1).push q).advance 1).popValue = s.readStackPair q := by
    rw [← State.readStackPair_advance s 1 q]
    exact State.popValue_push16 (s := s.advance 1) _ hhi' hlo'
  refine ⟨_, _, exec_push q s, exec_pop p _, ?_, ?_⟩
  · rw [State.pop, State.writeStackPair_sp]
    exact sub_add_cancel s.sp 2#16
  · rw [State.pop, State.readStackPair_writeStackPair, hvalue]

end Sys2Proof.Machine

namespace Sys2Proof

/-! ### The opcodes of the conditional transfers and of RST (R87, R202, R204, R207, R209, R211) -/

theorem Instr.encode_jrIf (cc : Cond) (e : Byte) : (Instr.jrIf cc e).encode = [BitVec.ofNat 8 (0x20 + 8 * cc.field), e] := by
  cases cc <;> rfl

theorem Instr.encode_jpIf (cc : Cond) (a : Word) :
    (Instr.jpIf cc a).encode = [BitVec.ofNat 8 (0xC2 + 8 * cc.field), loByte a, hiByte a] := by
  cases cc <;> rfl

theorem Instr.encode_callIf (cc : Cond) (a : Word) :
    (Instr.callIf cc a).encode = [BitVec.ofNat 8 (0xC4 + 8 * cc.field), loByte a, hiByte a] := by
  cases cc <;> rfl

theorem Instr.encode_retIf (cc : Cond) : (Instr.retIf cc).encode = [BitVec.ofNat 8 (0xC0 + 8 * cc.field)] := by
  cases cc <;> rfl

theorem Instr.encode_rst (t : RstVec) : (Instr.rst t).encode = [BitVec.ofNat 8 (0xC7 + 8 * t.field)] := by
  cases t <;> rfl

end Sys2Proof

namespace Sys2Proof.Machine

/-! ### A conditional transfer is the unconditional one, or only moves PC (R200)

No flag depends on PC, so the condition read past the instruction is that of the state before. -/

section
variable {s : State} {cc : Cond}

theorem exec_jrIf_of_cond (h : s.cond cc = true) (e : Byte) : exec (Instr.jrIf cc e) s = exec (.jrE8 e) s := by
  rw [exec_jrIf, State.jumpRelativeIf, State.cond_advance, if_pos h]
  rfl

theorem exec_jrIf_of_not_cond (h : s.cond cc = false) (e : Byte) : exec (Instr.jrIf cc e) s = .next (s.advance 2) := by
  rw [exec_jrIf, State.jumpRelativeIf, State.cond_advance, h, if_neg Bool.false_ne_true]

theorem exec_jpIf_of_cond (h : s.cond cc = true) (a : Word) : exec (Instr.jpIf cc a) s = exec (.jpA16 a) s := by
  rw [exec_jpIf, State.jumpIf, State.cond_advance, if_pos h]
  rfl

theorem exec_jpIf_of_not_cond (h : s.cond cc = false) (a : Word) : exec (Instr.jpIf cc a) s = .next (s.advance 3) := by
  rw [exec_jpIf, State.jumpIf, State.cond_advance, h, if_neg Bool.false_ne_true]

theorem exec_callIf_of_cond (h : s.cond cc = true) (a : Word) : exec (Instr.callIf cc a) s = exec (.callA16 a) s := by
  rw [exec_callIf, State.callIf, State.cond_advance, if_pos h]
  rfl

theorem exec_callIf_of_not_cond (h : s.cond cc = false) (a : Word) :
    exec (Instr.callIf cc a) s = .next (s.advance 3) := by
  rw [exec_callIf, State.callIf, State.cond_advance, h, if_neg Bool.false_ne_true]

theorem exec_retIf_of_cond (h : s.cond cc = true) : exec (Instr.retIf cc) s = exec .ret s := by
  rw [exec_retIf, State.retIf, State.cond_advance, if_pos h]
  rfl

theorem exec_retIf_of_not_cond (h : s.cond cc = false) : exec (Instr.retIf cc) s = .next (s.advance 1) := by
  rw [exec_retIf, State.retIf, State.cond_advance, h, if_neg Bool.false_ne_true]

end

/-! ### JR, JP and JP HL -/

/-- The target of a relative jump: the offset is added mod 2^16 to the address after the two bytes (R201). -/
theorem ofInt_add_two_add_toInt (pc : Word) (e : Byte) :
    BitVec.ofInt 16 (pc.toNat + 2 + e.toInt) = pc + 2#16 + sext16 e := by
  calc BitVec.ofInt 16 (pc.toNat + 2 + e.toInt)
      = BitVec.ofInt 16 (pc.toNat + e.toInt + 2) := by rw [add_right_comm]
    _ = pc + sext16 e + 2#16 := by rw [BitVec.ofInt_add, ofInt_add_toInt]; rfl
    _ = pc + 2#16 + sext16 e := add_right_comm ..

theorem exec_jrE8_eq (e : Byte) (s : State) :
    exec (.jrE8 e) s = .next { s with pc := BitVec.ofInt 16 (s.pc.toNat + 2 + e.toInt) } := by
  rw [ofInt_add_two_add_toInt]
  rfl

/-- Settles O50: the target of each form is the PC it writes. -/
theorem unconditionalJumps : Obligations.UnconditionalJumps := by
  unfold Obligations.UnconditionalJumps
  exact ⟨fun e s => ⟨rfl, exec_jrE8_eq e s⟩, fun _ _ => ⟨rfl, rfl⟩, fun _ => ⟨rfl, rfl⟩⟩

/-- Settles O51: taken, each form is the unconditional jump; not taken, PC moves past its bytes. -/
theorem conditionalJumps : Obligations.ConditionalJumps := by
  unfold Obligations.ConditionalJumps
  refine ⟨fun s => ⟨rfl, rfl, rfl, rfl⟩, fun cc e s => ⟨Instr.encode_jrIf cc e, fun htaken => ?_, fun hnot => ?_⟩,
    fun cc a s => ⟨Instr.encode_jpIf cc a, fun htaken => ?_, fun hnot => ?_⟩⟩
  · exact (exec_jrIf_of_cond htaken e).trans (exec_jrE8_eq e s)
  · exact exec_jrIf_of_not_cond hnot e
  · exact exec_jpIf_of_cond htaken a
  · exact exec_jpIf_of_not_cond hnot a

/-- The bytes at the end-of-run marker decode to JR -2 (R258). -/
theorem fetchInstr_of_atMarker {s : State} (h : s.atMarker) : s.fetchInstr = .jrE8 0xFE#8 := by
  obtain ⟨hop, himm⟩ := h
  rw [State.fetchInstr, hop, himm]
  rfl

/-- Settles O58: the offset -2 takes PC back to the opcode. -/
theorem endMarkerIsAFixedPoint : Obligations.EndMarkerIsAFixedPoint := by
  unfold Obligations.EndMarkerIsAFixedPoint
  intro s hmark hat
  have hoffset : sext16 0xFE#8 = -2#16 := by decide
  rw [step_of_unmarked hmark, fetchInstr_of_atMarker hat, exec_jrE8_eq, ofInt_add_two_add_toInt, hoffset,
    add_neg_cancel_right]

/-! ### CALL and RST -/

/-- A jump touches neither memory nor sink (R104). -/
theorem SameOutsideMemory.jump {s t : State} (h : SameOutsideMemory s t) (a : Word) :
    SameOutsideMemory (s.jump a) (t.jump a) :=
  congrArg (State.jump · a) h

/-- What a call past an instruction of `n` bytes does (R206, R211): the address after the instruction is pushed, PC is the target. -/
theorem State.call_advance (s : State) (a : Word) (n : Nat) :
    StoresBytes s ((s.advance n).call a)
        [(s.sp - 1#16, hiByte (s.pc + BitVec.ofNat 16 n)), (s.sp - 2#16, loByte (s.pc + BitVec.ofNat 16 n))] ∧
      SameOutsideMemory { s with sp := s.sp - 2#16, pc := a } ((s.advance n).call a) :=
  ⟨storesBytes_push16 (u := s.advance n) _ rfl rfl rfl rfl rfl,
    (State.push16_sameOutsideMemory (s.advance n) _).jump a⟩

/-- Settles O52: taken, every form is the unconditional call; not taken, PC moves past its bytes. -/
theorem calls : Obligations.Calls := by
  unfold Obligations.Calls
  refine ⟨fun a s => ⟨rfl, _, rfl, s.call_advance a 3⟩,
    fun cc a s => ⟨Instr.encode_callIf cc a, fun htaken => ?_, fun hnot => ?_⟩⟩
  · exact ⟨_, exec_callIf_of_cond htaken a, s.call_advance a 3⟩
  · exact exec_callIf_of_not_cond hnot a

/-- Settles O53: RST is a call at its vector, one byte long. -/
theorem restarts : Obligations.Restarts := by
  unfold Obligations.Restarts
  exact fun t s => ⟨Instr.encode_rst t, _, exec_rst t s, s.call_advance (rstAddress t) 1⟩

/-! ### RET, RET cc and RETI -/

theorem State.reti_of_nop {s : State} (h : s.cfg.reti = .nop) : s.reti = s := by
  rw [State.reti, h]

theorem State.reti_of_ret {s : State} (h : s.cfg.reti = .ret) : s.reti = s.ret := by
  rw [State.reti, h]

/-- Settles O54: RET pops PC; RET cc and RETI are RET or only move PC. -/
theorem returns : Obligations.Returns := by
  unfold Obligations.Returns
  refine ⟨rfl, rfl, fun s => ⟨rfl, fun cc => ⟨Instr.encode_retIf cc, fun htaken => ?_, fun hnot => ?_⟩,
    fun hnop => ?_, fun hret => ?_⟩⟩
  · exact exec_retIf_of_cond htaken
  · exact exec_retIf_of_not_cond hnot
  · exact congrArg Host.Outcome.next (State.reti_of_nop (s := s.advance 1) hnop)
  · exact congrArg Host.Outcome.next (State.reti_of_ret (s := s.advance 1) hret)

end Sys2Proof.Machine

namespace Sys2Proof

/-! ### As many rotations by one place as the word has bits -/

theorem getLsbD_rotateLeft_one {w i : Nat} (hw : 1 < w) (hi : i < w) (x : BitVec w) :
    (x.rotateLeft 1).getLsbD i = x.getLsbD ((i + (w - 1)) % w) := by
  rw [BitVec.getLsbD_rotateLeft, Nat.mod_eq_of_lt hw]
  cases i with
  | zero => simp [Nat.mod_eq_of_lt (show w - 1 < w by omega)]
  | succ i =>
    have hsum : i + 1 + (w - 1) = i + w := by omega
    simp [hi, hsum, Nat.mod_eq_of_lt (Nat.lt_of_succ_lt hi)]

theorem getLsbD_rotateRight_one {w i : Nat} (hw : 1 < w) (hi : i < w) (x : BitVec w) :
    (x.rotateRight 1).getLsbD i = x.getLsbD ((i + 1) % w) := by
  rw [BitVec.getLsbD_rotateRight, Nat.mod_eq_of_lt hw]
  obtain hlt | rfl : i + 1 < w ∨ w = i + 1 := by omega
  · simp [show i < w - 1 by omega, Nat.mod_eq_of_lt hlt, Nat.add_comm]
  · simp

/-- A map that moves every bit of a word by one fixed distance round the word is the identity when done once per bit. -/
theorem iterate_width_eq_self {w d : Nat} {f : BitVec w → BitVec w}
    (hf : ∀ (x : BitVec w) (i : Nat), i < w → (f x).getLsbD i = x.getLsbD ((i + d) % w)) (x : BitVec w) : f^[w] x = x := by
  have hiter (k : Nat) : ∀ i < w, (f^[k] x).getLsbD i = x.getLsbD ((i + k * d) % w) := by
    induction k with
    | zero => intro i hi; simp [Nat.mod_eq_of_lt hi]
    | succ k ih =>
      intro i hi
      rw [Function.iterate_succ_apply', hf _ i hi, ih _ (Nat.mod_lt _ (Nat.zero_lt_of_lt hi)), Nat.mod_add_mod,
        Nat.succ_mul, Nat.add_assoc, Nat.add_comm d]
  refine BitVec.eq_of_getLsbD_eq fun i hi => ?_
  rw [hiter w i hi, Nat.add_mul_mod_self_left, Nat.mod_eq_of_lt hi]

theorem iterate_rotateLeft_one {w : Nat} (hw : 1 < w) (x : BitVec w) : (BitVec.rotateLeft · 1)^[w] x = x :=
  iterate_width_eq_self (fun x _ hi => getLsbD_rotateLeft_one hw hi x) x

theorem iterate_rotateRight_one {w : Nat} (hw : 1 < w) (x : BitVec w) : (BitVec.rotateRight · 1)^[w] x = x :=
  iterate_width_eq_self (fun x _ hi => getLsbD_rotateRight_one hw hi x) x

end Sys2Proof

namespace Sys2Proof.Machine

/-! ### The rotated byte

The model computes the rotates on naturals (R220 to R223). RLCA and RRCA are rotations of A; RLA and RRA are shifts of A that take
CY in, and so rotations of the nine bits CY, A. -/

theorem rotateResult_rlca (a : Byte) (cy : Bool) : rotateResult .rlca a cy = a.rotateLeft 1 := by
  revert a cy; decide

theorem rotateResult_rrca (a : Byte) (cy : Bool) : rotateResult .rrca a cy = a.rotateRight 1 := by
  revert a cy; decide

theorem rotateResult_rla (a : Byte) (cy : Bool) :
    rotateResult .rla a cy = a <<< 1 ||| (if cy then 0x01#8 else 0x00#8) := by
  revert a cy; decide

theorem rotateResult_rra (a : Byte) (cy : Bool) :
    rotateResult .rra a cy = a >>> 1 ||| (if cy then 0x80#8 else 0x00#8) := by
  revert a cy; decide

theorem cons_rotateResult_rla (a : Byte) (cy : Bool) :
    BitVec.cons (rotateOut .rla a) (rotateResult .rla a cy) = (BitVec.cons cy a).rotateLeft 1 := by
  revert a cy; decide

theorem cons_rotateResult_rra (a : Byte) (cy : Bool) :
    BitVec.cons (rotateOut .rra a) (rotateResult .rra a cy) = (BitVec.cons cy a).rotateRight 1 := by
  revert a cy; decide

/-! ### A rotate as one write of A, F and PC -/

/-- A rotate writes A and CY, and keeps or clears Z, N and H (R220 to R223). -/
theorem State.rotate_eq (s : State) (op : RotOp) :
    s.rotate op = { s with
      a := rotateResult op s.a (s.flag .cy)
      f := if s.cfg.rotaFlags = .lr35902 then s.withFlags false false false (rotateOut op s.a)
        else s.withFlags (s.flag .z) (s.flag .n) (s.flag .h) (rotateOut op s.a) } := by
  cases hp : s.cfg.rotaFlags
  case' preserve => rw [if_neg (by decide)]
  case' lr35902 => rw [if_pos rfl]
  all_goals
    apply State.eq_of_flags (s := { s with a := rotateResult op s.a (s.flag .cy) }) (t := s.rotate op) <;>
      simp [State.rotate, State.rotaFlags, hp]

/-- Each rotate as its statement has it, the rotated byte spelled as `v`. -/
theorem exec_rot_eq {op : RotOp} {s : State} {v : Byte} (h : rotateResult op s.a (s.flag .cy) = v) :
    exec (Instr.rot op) s = .next { s with
      a := v
      f := if s.cfg.rotaFlags = .lr35902 then s.withFlags false false false (rotateOut op s.a)
        else s.withFlags (s.flag .z) (s.flag .n) (s.flag .h) (rotateOut op s.a)
      pc := s.pc + 1#16 } := by
  rw [exec_rot, State.rotate_eq, ← h]
  rfl

/-- Settles O55: form by form the opcode and the rotated byte. -/
theorem rotates : Obligations.Rotates := by
  unfold Obligations.Rotates
  exact ⟨rfl, rfl, rfl, rfl, fun s =>
    ⟨exec_rot_eq (op := .rlca) (rotateResult_rlca ..), exec_rot_eq (op := .rrca) (rotateResult_rrca ..),
      exec_rot_eq (op := .rla) (rotateResult_rla ..), exec_rot_eq (op := .rra) (rotateResult_rra ..)⟩⟩

/-! ### Rotates in a row -/

/-- CY and A as the nine bits that RLA and RRA rotate (R222, R223). -/
def State.carryRing (s : State) : BitVec 9 := BitVec.cons (s.flag .cy) s.a

theorem State.eq_of_carryRing_eq {s t : State} (h : t.carryRing = s.carryRing) : t.a = s.a ∧ t.flag .cy = s.flag .cy := by
  constructor
  · simpa [State.carryRing] using congrArg (BitVec.setWidth 8) h
  · simpa [State.carryRing] using congrArg BitVec.msb h

@[simp] theorem State.flag_cy_rotaFlags (s : State) : s.rotaFlags.flag .cy = s.flag .cy := by
  unfold State.rotaFlags
  split <;> simp

/-- A and CY after a rotate (R220 to R223). -/
theorem exec_rot_result (op : RotOp) (s : State) :
    ∃ t : State, exec (Instr.rot op) s = .next t ∧ t.a = rotateResult op s.a (s.flag .cy) ∧
      t.flag .cy = rotateOut op s.a := by
  refine ⟨_, exec_rot op s, ?_, ?_⟩ <;> simp [State.rotate]

/-- Where every execution of `i` completes and takes a reading `g` of the state to `f` of it, `k` in a row apply `f` to it `k` times. -/
theorem execTimes_iterate {α : Type} {i : Instr} {g : State → α} {f : α → α}
    (hi : ∀ s : State, ∃ t : State, exec i s = .next t ∧ g t = f (g s)) (k : Nat) (s : State) :
    ∃ t : State, execTimes i k s = .next t ∧ g t = f^[k] (g s) := by
  induction k with
  | zero => exact ⟨s, rfl, rfl⟩
  | succ k ih =>
    obtain ⟨t, hrun, ht⟩ := ih
    obtain ⟨u, hexec, hu⟩ := hi t
    exact ⟨u, (execTimes_succ hrun).trans hexec, by rw [hu, ht, Function.iterate_succ_apply']⟩

/-- Eight of a rotate that turns A alone by one place give A back. -/
theorem execTimes_rot_eight {op : RotOp} {f : Byte → Byte} (hop : ∀ a cy, rotateResult op a cy = f a)
    (hf : ∀ a, f^[8] a = a) (s : State) : ∃ t : State, execTimes (Instr.rot op) 8 s = .next t ∧ t.a = s.a := by
  have hexec (s : State) : ∃ t : State, exec (Instr.rot op) s = .next t ∧ t.a = f s.a := by
    obtain ⟨t, hexec, ha, -⟩ := exec_rot_result op s
    exact ⟨t, hexec, ha.trans (hop ..)⟩
  obtain ⟨t, hrun, ha⟩ := execTimes_iterate hexec 8 s
  exact ⟨t, hrun, ha.trans (hf _)⟩

/-- Nine of a rotate that turns CY and A together by one place give both back. -/
theorem execTimes_rot_nine {op : RotOp} {f : BitVec 9 → BitVec 9}
    (hop : ∀ a cy, BitVec.cons (rotateOut op a) (rotateResult op a cy) = f (BitVec.cons cy a)) (hf : ∀ x, f^[9] x = x)
    (s : State) : ∃ t : State, execTimes (Instr.rot op) 9 s = .next t ∧ t.a = s.a ∧ t.flag .cy = s.flag .cy := by
  have hexec (s : State) : ∃ t : State, exec (Instr.rot op) s = .next t ∧ t.carryRing = f s.carryRing := by
    obtain ⟨t, hexec, ha, hcy⟩ := exec_rot_result op s
    exact ⟨t, hexec, by rw [State.carryRing, ha, hcy, hop, State.carryRing]⟩
  obtain ⟨t, hrun, hring⟩ := execTimes_iterate hexec 9 s
  exact ⟨t, hrun, State.eq_of_carryRing_eq (hring.trans (hf _))⟩

/-- Settles O57: a word turned by one place as often as it has bits, the word being A for RLCA and RRCA, CY and A for RLA and RRA. -/
theorem rotatesReturn : Obligations.RotatesReturn := by
  unfold Obligations.RotatesReturn
  exact fun s =>
    ⟨execTimes_rot_eight (op := .rlca) rotateResult_rlca (iterate_rotateLeft_one (by decide)) s,
      execTimes_rot_eight (op := .rrca) rotateResult_rrca (iterate_rotateRight_one (by decide)) s,
      execTimes_rot_nine (op := .rla) cons_rotateResult_rla (iterate_rotateLeft_one (by decide)) s,
      execTimes_rot_nine (op := .rra) cons_rotateResult_rra (iterate_rotateRight_one (by decide)) s⟩

end Sys2Proof.Machine

namespace Sys2Proof.Machine

/-! ### Every instruction completes -/

/-- Settles O8: every instruction has its effect (`effectOf`), a raised model fault included (log 2), and the step of an unmarked
state is the execution of the instruction at PC. -/
theorem everyInstructionCompletes : Obligations.EveryInstructionCompletes := by
  unfold Obligations.EveryInstructionCompletes
  have hexec (i : Instr) (s : State) : ∃ t : State, exec i s = .next t := ⟨effectOf i s, exec_eq_effectOf i s⟩
  refine ⟨hexec, fun s hmark => ?_⟩
  rw [step_of_unmarked hmark]
  exact hexec s.fetchInstr s

end Sys2Proof.Machine
